-- ==== Sys2Proof/Word.lean ====
section
/-! DEFINITION. The word types of CORE (spec/00_scope.md R8): every quantity is unsigned, bit 0 is the least
significant bit, and arithmetic on an N-bit value wraps modulo 2^N, which is what `BitVec N` does. -/

namespace Sys2Proof

/-- `u8`: a character code, or one byte of the frame stream. -/
abbrev Byte := BitVec 8

/-- `u16`: a half of a frame word, a checksum, the identification seed. -/
abbrev Half := BitVec 16

/-- `u32`: a frame word, a command word, an IPv4 address, a register as the host reads it. -/
abbrev Word := BitVec 32

/-- `u48`: a MAC address (R21: byte `k` is bits `47-8k` to `40-8k`). -/
abbrev Mac := BitVec 48

/-- A word address of the host register space, 0x00 to 0x7F (R60). -/
abbrev HostAddr := BitVec 7

end Sys2Proof
end

