-- ==== Sys2Proof/Config.lean ====
section
/-! DEFINITION. The parameters the source leaves open (spec/00_scope.md R7): each is a named field of `Config`.
The defaults stand in `Sys2Proof.Machine.standardConfig` (Machine/Params.lean). A state carries its configuration
unchanged (notes/assumptions/2.md), so a statement may fix a parameter or hold for every value of it.
The two opaque constants are the FREE VALUES of the model: what a frame byte or a character that nothing has
written since reset reads as (notes/assumptions/3.md). -/

namespace Sys2Proof

/-- `CRC_LEN_MODE` (R7, D11): how `byteLength` is counted. -/
inductive CrcLenMode where
  /-- `byteLength` bounds the stream index: the skipped indices count (R171, the default). -/
  | indexBound
  /-- `byteLength` counts the bytes that enter the CRC (R182). -/
  | processedCount
deriving DecidableEq, Repr

/-- The open parameters of R7. -/
structure Config where
  /-- `FB_WORDS`: frame-buffer capacity in words. -/
  fbWords : Nat
  /-- `STR_MAX`: string-buffer capacity in characters. -/
  strMax : Nat
  /-- `WC_SS`: transmitted word count of variant SS. -/
  wcSS : BitVec 5
  /-- `WC_SH`. -/
  wcSH : BitVec 5
  /-- `WC_HS`. -/
  wcHS : BitVec 5
  /-- `WC_HH`. -/
  wcHH : BitVec 5
  /-- `IP_TOS`: IPv4 type of service. -/
  ipTos : Byte
  /-- `IP_TOTLEN`: IPv4 total length (not recomputed when other parameters change, U10). -/
  ipTotlen : Half
  /-- `IP_FLAGS_FRAG`: IPv4 flags and fragment offset. -/
  ipFlagsFrag : Half
  /-- `IP_TTL`: IPv4 time to live. -/
  ipTtl : Byte
  /-- `IP_PROTO`: IPv4 protocol. -/
  ipProto : Byte
  /-- `ICMP_IDSEQ`: ICMP identifier (high half) and sequence number (low half). -/
  icmpIdseq : Word
  /-- `PAYLOAD`: the one payload word. -/
  payload : Word
  /-- `PADWORD`: the trailer pad word of the software-CRC variants. -/
  padword : Word
  /-- `IPCSUM_STORE_XOR`: XORed into the IPv4 checksum result before it is stored. -/
  ipcsumStoreXor : Half
  /-- `ICMPCSUM_STORE_XOR`: the same for the ICMP checksum. -/
  icmpcsumStoreXor : Half
  /-- `CTRL_GO_BIT`: position of the "start transmit" bit of the control word. -/
  ctrlGoBit : Nat
  /-- `CTRL_NOHWCRC_BIT`: position of the "hardware must not compute CRC" flag. -/
  ctrlNohwcrcBit : Nat
  /-- `CTRL_NOHWMAC_BIT`: position of the "hardware must not insert MAC" flag. -/
  ctrlNohwmacBit : Nat
  /-- `CTRL_WC_SHIFT`: position of the word-count field. -/
  ctrlWcShift : Nat
  /-- `CTRL_WC_WIDTH`: width of the word-count field. -/
  ctrlWcWidth : Nat
  /-- `CRC_LEN_MODE`. -/
  crcLenMode : CrcLenMode
  /-- `CRC_DEBUG_ENABLE`: whether the CRCD command is accepted. -/
  crcDebugEnable : Bool
  /-- `DEBUG_HOOK`: whether BUILD runs the checksum self-check. -/
  debugHook : Bool
deriving DecidableEq, Repr

/-- FREE VALUE. What byte `index` of the frame stream holds after the reset numbered `epoch`, before anything is
written there (R37, R39, U7: "`any value` for each unmarked element"; "A model must not assume zero"). It has no
body: nothing can be proved of it. -/
opaque Config.unwrittenFrameByte (epoch index : Nat) : Byte

/-- FREE VALUE. What character `index` of the string buffer holds after the reset numbered `epoch`, before anything
is written there (R37, R39, U7). -/
opaque Config.unwrittenChar (epoch index : Nat) : Byte

end Sys2Proof
end

