-- ==== Sys2Proof/Syntax.lean ====
section
/-! DEFINITION. The ten commands of CORE (spec/30_encoding.md R92, spec/opcode_table.json), one constructor per row.
Operands are already decoded: register selectors and frame variants are names, and the numeric fields are the
unbounded naturals the range checks compare (R15, R91). -/

namespace Sys2Proof

/-- The MAC registers PMAC may name (R92: `sel` in 0, 1). -/
inductive MacReg where
  | dmac
  | smac
deriving DecidableEq, Repr

/-- The IPv4 registers PIP may name (R92: `sel` in 2, 3). -/
inductive IpReg where
  | sip
  | dip
deriving DecidableEq, Repr

/-- The four address registers (R21), as `sel` and `ERRINFO.SRC` name them (R91, R33). -/
inductive AddrReg where
  | dmac
  | smac
  | sip
  | dip
deriving DecidableEq, Repr

/-- FrameVariant (spec/30_encoding.md R105), in the source's order of enumeration. -/
inductive FrameVariant where
  /-- `SoftwareMacSoftwareCrc`. -/
  | ss
  /-- `SoftwareMacHardwareCrc`. -/
  | sh
  /-- `HardwareMacSoftwareCrc`. -/
  | hs
  /-- `HardwareMacHardwareCrc`. -/
  | hh
deriving DecidableEq, Repr

/-- The commands, in the order of spec/opcode_table.json. -/
inductive Instr where
  /-- NOP (R250). -/
  | nop
  /-- CLRERR (R251). -/
  | clrerr
  /-- PMAC sel (R125). -/
  | pmac (sel : MacReg)
  /-- PIP sel (R126). -/
  | pip (sel : IpReg)
  /-- CSUM base, count (R156). -/
  | csum (base count : Nat)
  /-- CVFY base, count (R157). -/
  | cvfy (base count : Nat)
  /-- CRC len (R178). -/
  | crc (len : Nat)
  /-- CRCD len (R179). -/
  | crcd (len : Nat)
  /-- SEND (R222). -/
  | send
  /-- BUILD variant (R200). -/
  | build (variant : FrameVariant)
deriving DecidableEq, Repr

end Sys2Proof
end

