-- ==== Sys2Proof/WellFormed.lean ====
section
/-! DEFINITION. Well-formed commands: those whose operands fit the fields of their format (spec/30_encoding.md R90,
R91). The range checks `base + count > 16` and `len > 64` are the command's own (R91), not made here. -/

namespace Sys2Proof

/-- `base` is a 4-bit field (R91). -/
def baseFits (base : Nat) : Bool := base < 16

/-- `count` is a 5-bit field (R91). -/
def countFits (count : Nat) : Bool := count < 32

/-- `len` is a 7-bit field (R91). -/
def lenFits (len : Nat) : Bool := len < 128

/-- The operands of the command fit its encoding. The selectors of PMAC, PIP and BUILD are names, so every value of
them is encodable. -/
def Instr.wellFormed : Instr → Bool
  | .nop => true
  | .clrerr => true
  | .pmac _ => true
  | .pip _ => true
  | .csum base count => baseFits base && countFits count
  | .cvfy base count => baseFits base && countFits count
  | .crc len => lenFits len
  | .crcd len => lenFits len
  | .send => true
  | .build _ => true

end Sys2Proof
end

