-- ==== Sys2Proof/Decode.lean ====
section
/-! DEFINITION. Decoding and encoding of command words (spec/30_encoding.md R90 to R92, R97 to R99, R105). A command
is one 32-bit word; decoding is total: a word is one command or is illegal, with the reason named. -/

namespace Sys2Proof

/-- Why a word is no command (R98). The reason is the model's bookkeeping: the machine sets `ILL` for each
(notes/assumptions/13.md). -/
inductive IllegalWord where
  /-- `op` in 0x9 to 0xF. -/
  | reservedOpcode
  /-- A non-zero `zero` bit. -/
  | reservedBits
  /-- PMAC with `sel` in 2, 3, or PIP with `sel` in 0, 1. -/
  | wrongSelector
deriving DecidableEq, Repr

/-- The selector code of a MAC register (R91). -/
def MacReg.code : MacReg → BitVec 2
  | .dmac => 0
  | .smac => 1

/-- The selector code of an IPv4 register (R91). -/
def IpReg.code : IpReg → BitVec 2
  | .sip => 2
  | .dip => 3

/-- The code of an address register in `ERRINFO.SRC` (R33, "the same code" as `sel`, R91). -/
def AddrReg.code : AddrReg → BitVec 2
  | .dmac => 0
  | .smac => 1
  | .sip => 2
  | .dip => 3

/-- A MAC register as one of the four address registers. -/
def MacReg.toAddr : MacReg → AddrReg
  | .dmac => .dmac
  | .smac => .smac

/-- An IPv4 register as one of the four address registers. -/
def IpReg.toAddr : IpReg → AddrReg
  | .sip => .sip
  | .dip => .dip

/-- The code of a frame variant (R105). -/
def FrameVariant.code : FrameVariant → BitVec 2
  | .ss => 0
  | .sh => 1
  | .hs => 2
  | .hh => 3

/-- The frame variant of a code (R105). -/
def FrameVariant.ofCode (c : BitVec 2) : FrameVariant :=
  if c = 0 then .ss else if c = 1 then .sh else if c = 2 then .hs else .hh

/-- `op`, bits 31:28 (R90). -/
def opField (w : Word) : BitVec 4 := w.extractLsb' 28 4

/-- Format N (R90): every bit below the opcode is zero. -/
def decodeN (w : Word) (i : Instr) : Except IllegalWord Instr :=
  if w.extractLsb' 0 28 = 0 then .ok i else .error .reservedBits

/-- Format S (R90) for PMAC: bits 27:2 zero, `sel` in 0, 1. -/
def decodePmac (w : Word) : Except IllegalWord Instr :=
  if w.extractLsb' 2 26 ≠ 0 then .error .reservedBits
  else if w.extractLsb' 0 2 = 0 then .ok (.pmac .dmac)
  else if w.extractLsb' 0 2 = 1 then .ok (.pmac .smac)
  else .error .wrongSelector

/-- Format S (R90) for PIP: bits 27:2 zero, `sel` in 2, 3. -/
def decodePip (w : Word) : Except IllegalWord Instr :=
  if w.extractLsb' 2 26 ≠ 0 then .error .reservedBits
  else if w.extractLsb' 0 2 = 2 then .ok (.pip .sip)
  else if w.extractLsb' 0 2 = 3 then .ok (.pip .dip)
  else .error .wrongSelector

/-- Format R (R90): bits 27:12 and 7:5 zero, `base` = bits 11:8, `count` = bits 4:0. -/
def decodeR (w : Word) (mk : Nat → Nat → Instr) : Except IllegalWord Instr :=
  if w.extractLsb' 12 16 = 0 ∧ w.extractLsb' 5 3 = 0 then
    .ok (mk (w.extractLsb' 8 4).toNat (w.extractLsb' 0 5).toNat)
  else .error .reservedBits

/-- Format L (R90): bits 27:9 and bit 7 zero, `D` = bit 8, `len` = bits 6:0. -/
def decodeL (w : Word) : Except IllegalWord Instr :=
  if w.extractLsb' 9 19 = 0 ∧ w.extractLsb' 7 1 = 0 then
    if w.extractLsb' 8 1 = 0 then .ok (.crc (w.extractLsb' 0 7).toNat)
    else .ok (.crcd (w.extractLsb' 0 7).toNat)
  else .error .reservedBits

/-- Format V (R90): bits 27:2 zero, `variant` = bits 1:0. -/
def decodeV (w : Word) : Except IllegalWord Instr :=
  if w.extractLsb' 2 26 = 0 then .ok (.build (FrameVariant.ofCode (w.extractLsb' 0 2)))
  else .error .reservedBits

/-- The decoder (R92, R97, R98): total on every 32-bit word. -/
def decode (w : Word) : Except IllegalWord Instr :=
  if opField w = 0x0 then decodeN w .nop
  else if opField w = 0x1 then decodeN w .clrerr
  else if opField w = 0x2 then decodePmac w
  else if opField w = 0x3 then decodePip w
  else if opField w = 0x4 then decodeR w .csum
  else if opField w = 0x5 then decodeR w .cvfy
  else if opField w = 0x6 then decodeL w
  else if opField w = 0x7 then decodeN w .send
  else if opField w = 0x8 then decodeV w
  else .error .reservedOpcode

/-- A value of a field of `width` bits, with its lowest bit at `low`. -/
def encodeField (value width low : Nat) : Word := BitVec.ofNat 32 (value % 2 ^ width) <<< low

/-- The encoder: the word of a command, field by field from its format (R90); every bit not named is zero. An operand
too wide for its field is cut to the field; a well-formed command has none. -/
def encode : Instr → Word
  | .nop => encodeField 0x0 4 28
  | .clrerr => encodeField 0x1 4 28
  | .pmac sel => encodeField 0x2 4 28 ||| encodeField sel.code.toNat 2 0
  | .pip sel => encodeField 0x3 4 28 ||| encodeField sel.code.toNat 2 0
  | .csum base count => encodeField 0x4 4 28 ||| encodeField base 4 8 ||| encodeField count 5 0
  | .cvfy base count => encodeField 0x5 4 28 ||| encodeField base 4 8 ||| encodeField count 5 0
  | .crc len => encodeField 0x6 4 28 ||| encodeField 0 1 8 ||| encodeField len 7 0
  | .crcd len => encodeField 0x6 4 28 ||| encodeField 1 1 8 ||| encodeField len 7 0
  | .send => encodeField 0x7 4 28
  | .build variant => encodeField 0x8 4 28 ||| encodeField variant.code.toNat 2 0

/-- A row of the opcode map: a word is the command exactly when `w & mask = pattern` (R92). -/
structure OpcodeRow where
  mnemonic : String
  pattern : Word
  mask : Word
deriving DecidableEq, Repr

/-- The opcode map of R92. -/
def opcodeRows : List OpcodeRow :=
  [ ⟨"NOP", 0x00000000, 0xFFFFFFFF⟩,
    ⟨"CLRERR", 0x10000000, 0xFFFFFFFF⟩,
    ⟨"PMAC", 0x20000000, 0xFFFFFFFE⟩,
    ⟨"PIP", 0x30000002, 0xFFFFFFFE⟩,
    ⟨"CSUM", 0x40000000, 0xFFFFF0E0⟩,
    ⟨"CVFY", 0x50000000, 0xFFFFF0E0⟩,
    ⟨"CRC", 0x60000000, 0xFFFFFF80⟩,
    ⟨"CRCD", 0x60000100, 0xFFFFFF80⟩,
    ⟨"SEND", 0x70000000, 0xFFFFFFFF⟩,
    ⟨"BUILD", 0x80000000, 0xFFFFFFFC⟩ ]

/-- The word matches the row (R92). -/
def OpcodeRow.matchesWord (r : OpcodeRow) (w : Word) : Bool := w &&& r.mask = r.pattern

/-- The mnemonic of a command in spec/opcode_table.json. -/
def Instr.mnemonic : Instr → String
  | .nop => "NOP"
  | .clrerr => "CLRERR"
  | .pmac _ => "PMAC"
  | .pip _ => "PIP"
  | .csum _ _ => "CSUM"
  | .cvfy _ _ => "CVFY"
  | .crc _ => "CRC"
  | .crcd _ => "CRCD"
  | .send => "SEND"
  | .build _ => "BUILD"

/-- What the decoder reads from the low `nbits` bits of `w`, as one command word (every row of the table is one
32-bit word; bits at and above `nbits` are zero). -/
def decodeTableWord (nbits w : Nat) : Option Instr :=
  match decode (BitVec.ofNat 32 (w % 2 ^ nbits)) with
  | .ok i => some i
  | .error _ => none

end Sys2Proof
end

