-- ==== Sys2Proof/Machine/Params.lean ====
section
/-! DEFINITION. The default of every open parameter (spec/00_scope.md R7) and the constants the source fixes (R6). -/

namespace Sys2Proof.Machine

/-- The defaults of R7. -/
def standardConfig : Config where
  fbWords := 16
  strMax := 64
  wcSS := 14
  wcSH := 12
  wcHS := 11
  wcHH := 9
  ipTos := 0x00
  ipTotlen := 0x0020
  ipFlagsFrag := 0x0000
  ipTtl := 0x40
  ipProto := 0x01
  icmpIdseq := 0x00000000
  payload := 0x00000000
  padword := 0x00000000
  ipcsumStoreXor := 0xFFFF
  icmpcsumStoreXor := 0x0000
  ctrlGoBit := 14
  ctrlNohwcrcBit := 15
  ctrlNohwmacBit := 16
  ctrlWcShift := 2
  ctrlWcWidth := 9
  crcLenMode := .indexBound
  crcDebugEnable := true
  debugHook := true

/-- `CRC_POLY`: reflected CRC-32 taps. -/
def crcPoly : Word := 0xEDB88320

/-- `CRC_INIT`: accumulator start, production mode. -/
def crcInit : Word := 0xFFFFFFFF

/-- `CRC_XOROUT`: final XOR, production mode. -/
def crcXorOut : Word := 0xFFFFFFFF

/-- `CRC_SKIP_FROM`: the stream index at which the engine jumps. -/
def crcSkipFrom : Nat := 14

/-- `CRC_SKIP_TO`: the stream index it jumps to. -/
def crcSkipTo : Nat := 16

/-- `IP_HDR_WORDS`: "IPv4 header (20 bytes, no options)". -/
def ipHdrWords : Nat := 5

/-- `WORD3`: frame word 3. -/
def word3 : Word := 0x08000800

end Sys2Proof.Machine
end

