-- ==== Sys2Proof/Machine/State.lean ====
section
/-! DEFINITION. The state of CORE (spec/10_state.md R20), its outcomes, and its reset (R39). -/

namespace Sys2Proof.Machine

/-- Why a step stops with a fault. -/
inductive Fault where
  /-- BUILD or SEND would touch a frame-buffer word at or beyond `FB_WORDS`, an address R10 says does not exist
  (`0 <= i < FB_WORDS`). Raised by `execBuild` and `execSend` only under a configuration, or from a window, that no
  run with the default parameters has (notes/assumptions/6.md). Safe: the model stops. -/
  | noSuchFrameWord
deriving DecidableEq, Repr

/-- Why a step refuses. -/
inductive Refusal where
  /-- The instruction has no meaning in the model yet. Raised by no arm of `exec`. Safe: the model stops. -/
  | notModelled (mnemonic : String)
deriving DecidableEq, Repr

/-- A byte-addressed store in canonical form: (address, byte) pairs, addresses strictly rising. A listed address is
one written since reset: the listing IS the written mark of R37. -/
abbrev Memory := List Host.Cell

/-- The flags of `STATUS` (R32). Every bit not listed reads 0. -/
structure Status where
  perr : Bool
  ill : Bool
  eoper : Bool
  fatal : Bool
  built : Bool
  vok : Bool
  dmacv : Bool
  smacv : Bool
  sipv : Bool
  dipv : Bool
deriving DecidableEq, Repr

/-- The two causes of a parse error (R33, R127, R261). -/
inductive ParseCause where
  | missingSep
  | overlen
deriving DecidableEq, Repr

/-- `ERRINFO` (R33): the record of the most recent parse failure. -/
structure ErrInfo where
  /-- `EV`: the record is valid. -/
  ev : Bool
  /-- `CAUSE`. -/
  cause : ParseCause
  /-- `FIELD`: zero-based index of the field at which parsing stopped. -/
  field : BitVec 3
  /-- `SRC`: which string failed. -/
  src : AddrReg
deriving DecidableEq, Repr

/-- The abnormal outcomes of a command (R260). -/
inductive Abnormal where
  /-- `AddressFormatError` in the parse for `sel`, at a field, for a cause (R261, R262). -/
  | parseError (sel : AddrReg) (field : Nat) (cause : ParseCause)
  /-- `ILL`: the word is no command (R263). -/
  | illegal
  /-- `EOPER`: operand or precondition refused (R264). -/
  | operand
  /-- `FATAL`: BUILD's self-check failed (R265). -/
  | selfCheck
deriving DecidableEq, Repr

/-- An event CORE issues to the transmit collaborator (R38). The register is part of the constructor: each symbolic
register takes values of one width. -/
inductive TxEvent where
  /-- `WriteReg(R_MACDST, value)`. -/
  | writeMacDst (value : Mac)
  /-- `WriteReg(R_MACSRC, value)`. -/
  | writeMacSrc (value : Mac)
  /-- `WriteReg(R_TXCMD, value)`. -/
  | writeTxCmd (value : Word)
  /-- `WriteBulk(R_TXBUF, count, words)`. -/
  | writeBulk (count : Nat) (words : List Word)
deriving DecidableEq, Repr

/-- What the outside does to CORE: the host's two actions (R11, R63, R64) and the reset input (R290). -/
inductive Input where
  /-- `HostWrite(a, v)`. -/
  | hostWrite (a : HostAddr) (v : Word)
  /-- `HostRead(a)`. -/
  | hostRead (a : HostAddr)
  /-- The external reset. -/
  | reset
deriving DecidableEq, Repr

/-- What a `HostRead` gave the host. -/
structure Reply where
  addr : HostAddr
  value : Word
deriving DecidableEq, Repr

/-- The state. The fields down to `txlog` are those of R20; the last four are the model's own. -/
structure State where
  /-- `DMAC` (R21). -/
  dmac : Mac
  /-- `SMAC` (R21). -/
  smac : Mac
  /-- `SIP` (R21). -/
  sip : Word
  /-- `DIP` (R21). -/
  dip : Word
  /-- `FB` (R24) as the frame byte stream (R60): stream index to byte, with its written marks (R37). -/
  fb : Memory
  /-- `STR` (R25): character index to code, with its written marks (R37). -/
  str : Memory
  /-- `STRLEN` (R26). -/
  strlen : BitVec 7
  /-- `IDSEED` (R27). -/
  idseed : Half
  /-- `CSFOLD` (R28). -/
  csfold : Half
  /-- `CSRES` (R28). -/
  csres : Half
  /-- `CRCRES` (R29). -/
  crcres : Word
  /-- `TXBASE` (R30). -/
  txbase : BitVec 4
  /-- `TXCOUNT` (R30). -/
  txcount : BitVec 5
  /-- `TXBYTES` (R30). -/
  txbytes : BitVec 7
  /-- `TXVAR` (R30), a 2-bit variant code (R105). -/
  txvar : FrameVariant
  /-- `TXCTRL` (R31). -/
  txctrl : Word
  /-- `STATUS` (R32). -/
  status : Status
  /-- `ERRINFO` (R33). -/
  errinfo : ErrInfo
  /-- `TXLOG` (R38), oldest event first. -/
  txlog : List TxEvent
  /-- MODEL'S OWN: the parameters of R7, never changed (notes/assumptions/2.md). -/
  cfg : Config
  /-- MODEL'S OWN: the number of external resets so far; it tells the free contents of one reset from those of
  another (notes/assumptions/3.md). -/
  epoch : Nat
  /-- MODEL'S OWN: what the outside is still going to do, first action first (notes/assumptions/1.md). -/
  pending : List Input
  /-- MODEL'S OWN: what host reads have returned, oldest first (notes/assumptions/1.md). -/
  replies : List Reply
deriving DecidableEq, Repr

/-- Every flag clear (R39). -/
def Status.clear : Status where
  perr := false
  ill := false
  eoper := false
  fatal := false
  built := false
  vok := false
  dmacv := false
  smacv := false
  sipv := false
  dipv := false

/-- `ERRINFO` = 0 (R39, R251): every field's code is 0. -/
def ErrInfo.clear : ErrInfo where
  ev := false
  cause := .missingSep
  field := 0
  src := .dmac

/-- The machine right after reset (R39, R290), with the default parameters of R7 and nothing to do. -/
def State.reset : State where
  dmac := 0
  smac := 0
  sip := 0
  dip := 0
  fb := []
  str := []
  strlen := 0
  idseed := 0
  csfold := 0
  csres := 0
  crcres := 0
  txbase := 0
  txcount := 0
  txbytes := 0
  txvar := .ss
  txctrl := 0
  status := Status.clear
  errinfo := ErrInfo.clear
  txlog := []
  cfg := standardConfig
  epoch := 0
  pending := []
  replies := []

end Sys2Proof.Machine
end

