-- ==== Sys2Proof/Machine/Operands.lean ====
section
/-! DEFINITION. The operand forms of CORE: bytes and halves of a word, byte orders, bytes of an address, the bits of
a frame variant, the packed host registers, and what the configuration gives a variant. -/

namespace Sys2Proof.Machine

/-- Byte `k` of a word, byte 0 the most significant: `(w >> (24 - 8*k)) & 0xFF` (R9). -/
def byteOf (w : Word) (k : Nat) : Byte := (w >>> (24 - 8 * k)).setWidth 8

/-- A field in its place: `zext_32(v) << position` (R8, R10). -/
def place {n : Nat} (v : BitVec n) (position : Nat) : Word := v.setWidth 32 <<< position

/-- `{b0, b1, b2, b3}`: four bytes as a word, the first the most significant (R8, R66). -/
def wordOfBytes (b0 b1 b2 b3 : Byte) : Word := place b0 24 ||| place b1 16 ||| place b2 8 ||| place b3 0

/-- `{hi, lo}`: two halves as a word (R8). -/
def wordOfHalves (hi lo : Half) : Word := place hi 16 ||| place lo 0

/-- `{b0, b1, lo}`: two bytes and a half as a word (R8). -/
def wordOfBytesHalf (b0 b1 : Byte) (lo : Half) : Word := place b0 24 ||| place b1 16 ||| place lo 0

/-- `half_hi(w)`, bits 31:16 (R10). -/
def halfHi (w : Word) : Half := w.extractLsb' 16 16

/-- `half_lo(w)`, bits 15:0 (R10). -/
def halfLo (w : Word) : Half := w.extractLsb' 0 16

/-- `bswap32(v)` = `{v[7:0], v[15:8], v[23:16], v[31:24]}` (R10). -/
def bswap32 (v : Word) : Word := wordOfBytes (byteOf v 3) (byteOf v 2) (byteOf v 1) (byteOf v 0)

/-- Byte `k` of a MAC register: `M[47-8k : 40-8k]` (R21). -/
def macByte (m : Mac) (k : Nat) : Byte := (m >>> (40 - 8 * k)).setWidth 8

/-- Bytes packed into a value of `width` bits, the first byte most significant (R125, R126). -/
def packBytes (width : Nat) (bytes : List Byte) : BitVec width :=
  bytes.foldl (fun acc b => (acc <<< 8) ||| b.setWidth width) 0

/-- `variant[1]`: MAC insertion is hardware-offloaded (R105). -/
def hwMac (v : FrameVariant) : Bool := v.code.getLsbD 1

/-- `variant[0]`: the CRC is hardware-offloaded (R105). -/
def hwCrc (v : FrameVariant) : Bool := v.code.getLsbD 0

/-- `WC(variant)`: the transmitted word count (R202). -/
def wordCount (c : Config) : FrameVariant → BitVec 5
  | .ss => c.wcSS
  | .sh => c.wcSH
  | .hs => c.wcHS
  | .hh => c.wcHH

/-- `TXBASE` of a variant (R200, R202): the window starts at the EtherType word when the MAC words are omitted. -/
def windowBase (v : FrameVariant) : BitVec 4 := if hwMac v then 3 else 0

/-- How many words BUILD lays out: `FB[0..11]`, and `FB[12]`, `FB[13]` in the software-CRC variants (R201). -/
def layoutWords (v : FrameVariant) : Nat := if hwCrc v then 12 else 14

/-- The control word (R216). -/
def controlWord (c : Config) (v : FrameVariant) (count : BitVec 5) : Word :=
  place 1#1 c.ctrlGoBit
    ||| place count c.ctrlWcShift
    ||| place (BitVec.ofBool !hwCrc v) c.ctrlNohwcrcBit
    ||| place (BitVec.ofBool !hwMac v) c.ctrlNohwmacBit

/-- Decoding the count back from a control word: `(TXCTRL >> CTRL_WC_SHIFT) & (2^CTRL_WC_WIDTH - 1)` (R104). -/
def controlCount (c : Config) (ctrl : Word) : Nat := (ctrl >>> c.ctrlWcShift).toNat % 2 ^ c.ctrlWcWidth

/-- `TXDESC` (R62): bits 4:0 `TXCOUNT`, 11:8 `TXBASE`, 22:16 `TXBYTES`, 25:24 `TXVAR`, other bits 0. -/
def txDesc (count : BitVec 5) (base : BitVec 4) (bytes : BitVec 7) (v : FrameVariant) : Word :=
  place count 0 ||| place base 8 ||| place bytes 16 ||| place v.code 24

/-- The high word a MAC register reads as: `zext_32(M[47:32])` (R61). -/
def macHi (m : Mac) : Word := (m.extractLsb' 32 16).setWidth 32

/-- The low word a MAC register reads as: `M[31:0]` (R61). -/
def macLo (m : Mac) : Word := m.extractLsb' 0 32

end Sys2Proof.Machine
end

