-- ==== Sys2Proof/Machine/Flags.lean ====
section
/-! DEFINITION. The flags of `STATUS` (spec/10_state.md R32) and the record `ERRINFO` (R33): how they read as words,
and the named updates the commands make. CORE has no arithmetic flag. -/

namespace Sys2Proof.Machine

/-- A flag in its bit position. -/
def flagBit (b : Bool) (position : Nat) : Word := place (BitVec.ofBool b) position

/-- `STATUS` as the host reads it (R32). -/
def Status.toWord (f : Status) : Word :=
  flagBit f.perr 0 ||| flagBit f.ill 1 ||| flagBit f.eoper 2 ||| flagBit f.fatal 3 ||| flagBit f.built 4
    ||| flagBit f.vok 5 ||| flagBit f.dmacv 8 ||| flagBit f.smacv 9 ||| flagBit f.sipv 10 ||| flagBit f.dipv 11

/-- The code of a cause (R33): 0 = `MISSING_SEP`, 1 = `OVERLEN`. -/
def ParseCause.code : ParseCause → BitVec 1
  | .missingSep => 0
  | .overlen => 1

/-- `ERRINFO` as the host reads it (R33): bit 31 `EV`, bit 8 `CAUSE`, bits 6:4 `FIELD`, bits 1:0 `SRC`. -/
def ErrInfo.toWord (e : ErrInfo) : Word :=
  place e.src.code 0 ||| place e.field 4 ||| place (ParseCause.code e.cause) 8 ||| flagBit e.ev 31

/-- The valid bit of an address register (R22). -/
def Status.valid (f : Status) : AddrReg → Bool
  | .dmac => f.dmacv
  | .smac => f.smacv
  | .sip => f.sipv
  | .dip => f.dipv

/-- `f` with the valid bit of an address register set to `b` (R22). -/
def Status.setValid (f : Status) (r : AddrReg) (b : Bool) : Status :=
  match r with
  | .dmac => { f with dmacv := b }
  | .smac => { f with smacv := b }
  | .sip => { f with sipv := b }
  | .dip => { f with dipv := b }

/-- `DMACV and SMACV and SIPV and DIPV`, BUILD's precondition (R203). -/
def Status.allValid (f : Status) : Bool := f.dmacv && f.smacv && f.sipv && f.dipv

end Sys2Proof.Machine
end

