-- ==== Sys2Proof/Machine/Ops.lean ====
section
/-! DEFINITION. The named operations over buffers and registers, and the abnormal outcomes of a command: entering one
(R262 to R265) and clearing them (R251, R269). -/

namespace Sys2Proof.Machine

/-! ## Byte stores -/

/-- The byte listed at an address; `none` where nothing has been written since reset. -/
def Memory.lookup : Memory → Nat → Option Byte
  | [], _ => none
  | (k, b) :: m, a => if k = a then some b else Memory.lookup m a

/-- The store with `b` at `a`, in canonical form. -/
def Memory.insert : Memory → Nat → Byte → Memory
  | [], a, b => [(a, b)]
  | (k, c) :: m, a, b =>
    if a < k then (a, b) :: (k, c) :: m
    else if a = k then (a, b) :: m
    else (k, c) :: Memory.insert m a b

/-- The canonical form: addresses strictly rising. (An unlisted address reads as no value, so no entry can equal
it.) -/
abbrev Memory.wf (m : Memory) : Prop := List.Pairwise (fun x y : Host.Cell => x.1 < y.1) m

/-- The address is listed: it has been written since reset (R37). -/
def Memory.marked (m : Memory) (a : Nat) : Bool := (Memory.lookup m a).isSome

/-! ## The frame buffer -/

/-- `FrameByte(i)` (R10, R24): the written byte, or the free value where nothing is written (U7). -/
def frameByte (s : State) (i : Nat) : Byte :=
  (Memory.lookup s.fb i).getD (Config.unwrittenFrameByte s.epoch i)

/-- `FB[k]`: its four stream bytes, the first most significant (R24, R66). -/
def fbWord (s : State) (k : Nat) : Word :=
  wordOfBytes (frameByte s (4 * k)) (frameByte s (4 * k + 1)) (frameByte s (4 * k + 2)) (frameByte s (4 * k + 3))

/-- The mark of `FB[k]` (R37). -/
def fbMarked (s : State) (k : Nat) : Bool :=
  Memory.marked s.fb (4 * k) && Memory.marked s.fb (4 * k + 1)
    && Memory.marked s.fb (4 * k + 2) && Memory.marked s.fb (4 * k + 3)

/-- The stream with word `k` set, big-endian. -/
def Memory.insertWord (m : Memory) (k : Nat) (v : Word) : Memory :=
  Memory.insert (Memory.insert (Memory.insert (Memory.insert m (4 * k) (byteOf v 0))
    (4 * k + 1) (byteOf v 1)) (4 * k + 2) (byteOf v 2)) (4 * k + 3) (byteOf v 3)

/-- `FB[k] <- v`, which also marks `FB[k]` written. -/
def writeFbWord (k : Nat) (v : Word) (s : State) : State :=
  { s with fb := Memory.insertWord s.fb k v }

/-- `FB[k..] <- ws`, in order. -/
def writeFbWords : Nat → List Word → State → State
  | _, [], s => s
  | k, w :: ws, s => writeFbWords (k + 1) ws (writeFbWord k w s)

/-- `FB[k][15:0] <- h`: the checksum fields are patched this way (R210, R211). -/
def patchFbLow (k : Nat) (h : Half) (s : State) : State :=
  writeFbWord k (wordOfHalves (halfHi (fbWord s k)) h) s

/-- The words `FB[base] .. FB[base+count-1]`. -/
def fbWindow (s : State) (base count : Nat) : List Word :=
  (List.range count).map fun j => fbWord s (base + j)

/-! ## The string buffer -/

/-- `STR[k]`: the written character, or the free value where nothing is written (U7). -/
def strChar (s : State) (k : Nat) : Byte :=
  (Memory.lookup s.str k).getD (Config.unwrittenChar s.epoch k)

/-- `STR[k] <- c`, which also marks `STR[k]` written. -/
def writeStr (k : Nat) (c : Byte) (s : State) : State :=
  { s with str := Memory.insert s.str k c }

/-- The text the parser reads: `STR[0] .. STR[STRLEN-1]` (R26, R120). -/
def parserText (s : State) : List Byte :=
  (List.range s.strlen.toNat).map (strChar s)

/-! ## The address registers -/

/-- Write a MAC register (R21, R125). -/
def writeMac (r : MacReg) (v : Mac) (s : State) : State :=
  match r with
  | .dmac => { s with dmac := v }
  | .smac => { s with smac := v }

/-- Write an IPv4 register (R21, R126). -/
def writeIp (r : IpReg) (v : Word) (s : State) : State :=
  match r with
  | .sip => { s with sip := v }
  | .dip => { s with dip := v }

/-- A parse into `r` succeeded: its valid bit is set and `PERR` cleared (R125, R126). -/
def parseSucceeded (r : AddrReg) (s : State) : State :=
  { s with status := { s.status.setValid r true with perr := false } }

/-! ## The transmit log -/

/-- `Emit`: append events to `TXLOG`, in order (R38). -/
def emit (es : List TxEvent) (s : State) : State :=
  { s with txlog := s.txlog ++ es }

/-! ## Abnormal outcomes -/

/-- Entering an abnormal outcome: the write of the flag and the record that R262 to R265 name, and nothing else.
Nothing is saved and no control goes anywhere (R269). -/
def takeAbnormal (a : Abnormal) (s : State) : State :=
  match a with
  | .parseError sel field cause =>
    { s with
      status := { s.status.setValid sel false with perr := true }
      errinfo := { ev := true, cause := cause, field := BitVec.ofNat 3 field, src := sel } }
  | .illegal => { s with status := { s.status with ill := true } }
  | .operand => { s with status := { s.status with eoper := true } }
  | .selfCheck => { s with status := { s.status with fatal := true } }

/-- Clearing the clearable ones: `PERR`, `ILL`, `EOPER` and `ERRINFO` (R251). `FATAL`, `BUILT`, `VOK` and the valid
bits stay. -/
def clearErrors (s : State) : State :=
  { s with
    status := { s.status with perr := false, ill := false, eoper := false }
    errinfo := ErrInfo.clear }

/-! ## Reset -/

/-- The external reset (R290): every piece of state at its reset value, the buffers' contents unspecified anew. The
parameters, and what belongs to the outside, stay. -/
def applyReset (s : State) : State :=
  { State.reset with
    cfg := s.cfg
    epoch := s.epoch + 1
    pending := s.pending
    replies := s.replies }

end Sys2Proof.Machine
end

