-- ==== Sys2Proof/Machine/Control.lean ====
section
/-! DEFINITION. The control commands (spec/44_control.md). -/

namespace Sys2Proof.Machine

/-- NOP (R250): no state change. -/
def execNop (s : State) : Host.Outcome State Fault Refusal := .next s

/-- CLRERR (R251). -/
def execClrerr (s : State) : Host.Outcome State Fault Refusal := .next (clearErrors s)

end Sys2Proof.Machine
end

