-- ==== Sys2Proof/Machine/Checksum.lean ====
section
/-! DEFINITION. The ones-complement checksum engine (spec/41_checksum_engine.md R150 to R160). -/

namespace Sys2Proof.Machine

/-- The summation of R152 from word `k`, `n` words, into `acc`: high half, then low half, of each word. -/
def sumHalves (s : State) : Nat → Nat → Word → Word
  | _, 0, acc => acc
  | k, n + 1, acc =>
    sumHalves s (k + 1) n (acc + (halfHi (fbWord s k)).setWidth 32 + (halfLo (fbWord s k)).setWidth 32)

/-- The accumulator after R152. -/
def regionSum (s : State) (base count : Nat) : Word := sumHalves s base count 0

/-- The fold loop of R153, at most `fuel` rounds. -/
def foldRounds : Nat → Word → Word
  | 0, acc => acc
  | fuel + 1, acc =>
    if halfHi acc = 0 then acc
    else foldRounds fuel ((halfLo acc).setWidth 32 + (halfHi acc).setWidth 32)

/-- `fold` (R153). Two rounds bring any 32-bit accumulator to a zero high half (notes/assumptions/9.md). -/
def fold (acc : Word) : Half := halfLo (foldRounds 2 acc)

/-- `Csum(base, count)` (R154): the folded sum and its complement at 16 bits. -/
def csum (s : State) (base count : Nat) : Half × Half :=
  (fold (regionSum s base count), ~~~ fold (regionSum s base count))

/-- The region lies inside the buffer (R150): `base + count <= 16` under the default `FB_WORDS`, compared as
unbounded naturals (R15). -/
def regionInBuffer (s : State) (base count : Nat) : Bool := base + count ≤ s.cfg.fbWords

/-- CSUM base, count (R156). -/
def execCsum (base count : Nat) (s : State) : Host.Outcome State Fault Refusal :=
  if regionInBuffer s base count then
    .next { s with csfold := (csum s base count).1, csres := (csum s base count).2 }
  else .next (takeAbnormal .operand s)

/-- CVFY base, count (R157): the folded sum and `VOK`; `CSRES` is not written. -/
def execCvfy (base count : Nat) (s : State) : Host.Outcome State Fault Refusal :=
  if regionInBuffer s base count then
    .next { s with
      csfold := (csum s base count).1
      status := { s.status with vok := (csum s base count).1 = 0xFFFF } }
  else .next (takeAbnormal .operand s)

end Sys2Proof.Machine
end

