-- ==== Sys2Proof/Machine/Crc.lean ====
section
/-! DEFINITION. The CRC-32 frame check sequence engine (spec/42_crc_engine.md R170 to R185). -/

namespace Sys2Proof.Machine

/-- One bit step (R175). -/
def crcStep (acc : Word) : Word :=
  if acc.getLsbD 0 then (acc >>> 1) ^^^ crcPoly else acc >>> 1

/-- `n` bit steps. -/
def crcSteps : Nat → Word → Word
  | 0, acc => acc
  | n + 1, acc => crcSteps n (crcStep acc)

/-- One processed byte (R175): XOR into the low 8 bits, then eight bit steps. -/
def crcByte (acc : Word) (b : Byte) : Word := crcSteps 8 (acc ^^^ b.setWidth 32)

/-- The loop of R177 (`INDEX_BOUND`) from stream index `i`: on reaching index 14 the index becomes 16 and the loop
test is made again (R174). `fuel` bounds the rounds; each raises the index, so `len` of them are enough
(notes/assumptions/9.md). -/
def crcIndexLoop (s : State) (len : Nat) : Nat → Nat → Word → Word
  | 0, _, acc => acc
  | fuel + 1, i, acc =>
    if len ≤ i then acc
    else if i = crcSkipFrom then crcIndexLoop s len fuel crcSkipTo acc
    else crcIndexLoop s len fuel (i + 1) (crcByte acc (frameByte s i))

/-- The loop of R182 (`PROCESSED_COUNT`): `n` bytes are processed, and the stream index runs ahead by 2 once it has
passed 14. -/
def crcCountLoop (s : State) : Nat → Nat → Word → Word
  | 0, _, acc => acc
  | n + 1, i, acc =>
    crcCountLoop s n ((if i = crcSkipFrom then i + 2 else i) + 1)
      (crcByte acc (frameByte s (if i = crcSkipFrom then i + 2 else i)))

/-- The accumulator after the bytes of a `byteLength`, as `CRC_LEN_MODE` counts it (R171, R182). -/
def crcAccumulate (s : State) (len : Nat) (init : Word) : Word :=
  match s.cfg.crcLenMode with
  | .indexBound => crcIndexLoop s len len 0 init
  | .processedCount => crcCountLoop s len 0 init

/-- The accumulator's start (R172, R179). -/
def crcStart (debug : Bool) : Word := if debug then 0 else crcInit

/-- The final XOR (R176, R179). -/
def crcFinish (debug : Bool) (acc : Word) : Word := if debug then acc else acc ^^^ crcXorOut

/-- `Crc32(byteLength, debug)` (R177): the returned value is byte-reversed (R176). -/
def crc32 (s : State) (len : Nat) (debug : Bool) : Word :=
  bswap32 (crcFinish debug (crcAccumulate s len (crcStart debug)))

/-- The largest legal `byteLength`: `4 * FB_WORDS` (R170), two less when `byteLength` counts processed bytes, whose
last index is then `byteLength + 1` (R182). -/
def crcMaxLen (c : Config) : Nat :=
  match c.crcLenMode with
  | .indexBound => 4 * c.fbWords
  | .processedCount => 4 * c.fbWords - 2

/-- CRC len (R178). -/
def execCrc (len : Nat) (s : State) : Host.Outcome State Fault Refusal :=
  if crcMaxLen s.cfg < len then .next (takeAbnormal .operand s)
  else .next { s with crcres := crc32 s len false }

/-- CRCD len (R179). -/
def execCrcd (len : Nat) (s : State) : Host.Outcome State Fault Refusal :=
  if s.cfg.crcDebugEnable = false then .next (takeAbnormal .operand s)
  else if crcMaxLen s.cfg < len then .next (takeAbnormal .operand s)
  else .next { s with crcres := crc32 s len true }

end Sys2Proof.Machine
end

