-- ==== Sys2Proof/Machine/FrameBuilder.lean ====
section
/-! DEFINITION. The frame builder and the hand-over (spec/43_frame_builder.md R200 to R224). -/

namespace Sys2Proof.Machine

/-! ## BUILD -/

/-- The MAC words `FB[0..2]` (R204), written in every variant. -/
def macWords (s : State) : List Word :=
  [ wordOfBytes (macByte s.dmac 0) (macByte s.dmac 1) (macByte s.dmac 2) (macByte s.dmac 3),
    wordOfBytes (macByte s.dmac 4) (macByte s.dmac 5) (macByte s.smac 0) (macByte s.smac 1),
    wordOfBytes (macByte s.smac 2) (macByte s.smac 3) (macByte s.smac 4) (macByte s.smac 5) ]

/-- The IPv4 header words `FB[4..8]` with the checksum field zero (R206). -/
def ipHeaderWords (s : State) : List Word :=
  [ wordOfBytesHalf 0x45 s.cfg.ipTos s.cfg.ipTotlen,
    wordOfHalves s.idseed s.cfg.ipFlagsFrag,
    wordOfBytesHalf s.cfg.ipTtl s.cfg.ipProto 0x0000,
    s.sip,
    s.dip ]

/-- The ICMP words and the payload `FB[9..11]`, the checksum field zero (R207). -/
def icmpWords (s : State) : List Word :=
  [ 0x08000000, s.cfg.icmpIdseq, s.cfg.payload ]

/-- `FB[0..11]` before the checksums are patched (R204 to R207). -/
def draftWords (s : State) : List Word :=
  macWords s ++ [word3] ++ ipHeaderWords s ++ icmpWords s

/-- The self-check of R209: the header sum with the true checksum in its field folds to 0xFFFF. -/
def selfCheckPasses (sum : Word) (c : Half) : Bool := fold (sum + c.setWidth 32) = 0xFFFF

/-- The `byteLength` of BUILD's CRC call (R214): 52 stream bytes, which are 50 processed ones. -/
def buildCrcLen (c : Config) : Nat :=
  match c.crcLenMode with
  | .indexBound => 52
  | .processedCount => 50

/-- R210: the IPv4 checksum, XORed with `IPCSUM_STORE_XOR`, goes into the low half of `FB[6]`. -/
def storeIpChecksum (s : State) : State :=
  patchFbLow 6 ((csum s 4 ipHdrWords).2 ^^^ s.cfg.ipcsumStoreXor) s

/-- R211, R212: the ICMP checksum goes into the low half of `FB[9]`, and the engine's pair into `CSFOLD`, `CSRES`. -/
def storeIcmpChecksum (s : State) : State :=
  { patchFbLow 9 ((csum s 9 3).2 ^^^ s.cfg.icmpcsumStoreXor) s with
    csfold := (csum s 9 3).1
    csres := (csum s 9 3).2 }

/-- R207, R214: in the software-CRC variants the pad word, then the frame check sequence, which also goes into
`CRCRES`. -/
def appendCrc (s : State) : State :=
  let padded := writeFbWord 12 s.cfg.padword s
  let fcs := crc32 padded (buildCrcLen s.cfg) false
  { writeFbWord 13 fcs padded with crcres := fcs }

/-- R215, R216: the transmit window and the control word; `BUILT` is set. -/
def setDescriptor (v : FrameVariant) (s : State) : State :=
  { s with
    txbase := windowBase v
    txcount := wordCount s.cfg v
    txbytes := 4 * (wordCount s.cfg v).setWidth 7
    txvar := v
    txctrl := controlWord s.cfg v (wordCount s.cfg v)
    status := { s.status with built := true } }

/-- BUILD after its draft has passed the self-check: the steps of R200 from R210 on. -/
def finishBuild (v : FrameVariant) (s : State) : State :=
  let checked := storeIcmpChecksum (storeIpChecksum s)
  setDescriptor v (if hwCrc v then checked else appendCrc checked)

/-- BUILD once its precondition holds (R200). -/
def buildFrame (v : FrameVariant) (s : State) : State :=
  let draft := writeFbWords 0 (draftWords s) s
  if draft.cfg.debugHook && !selfCheckPasses (regionSum draft 4 ipHdrWords) (csum draft 4 ipHdrWords).2 then
    takeAbnormal .selfCheck draft
  else finishBuild v draft

/-- BUILD variant (R200). Refused when an address is not valid (R203). -/
def execBuild (v : FrameVariant) (s : State) : Host.Outcome State Fault Refusal :=
  if s.status.allValid = false then .next (takeAbnormal .operand s)
  else if s.cfg.fbWords < layoutWords v then .fault .noSuchFrameWord
  else .next (buildFrame v s)

/-! ## SEND -/

/-- The events of a SEND (R222), in order. -/
def sendEvents (s : State) : List TxEvent :=
  (if hwMac s.txvar then [.writeMacDst s.dmac, .writeMacSrc s.smac] else [])
    ++ [.writeBulk s.txcount.toNat (fbWindow s s.txbase.toNat s.txcount.toNat), .writeTxCmd s.txctrl]

/-- SEND (R222). Refused when no frame is built. -/
def execSend (s : State) : Host.Outcome State Fault Refusal :=
  if s.status.built = false then .next (takeAbnormal .operand s)
  else if s.cfg.fbWords < s.txbase.toNat + s.txcount.toNat then .fault .noSuchFrameWord
  else .next { emit (sendEvents s) s with status := { s.status with built := false } }

end Sys2Proof.Machine
end

