-- ==== Sys2Proof/Machine/Parser.lean ====
section
/-! DEFINITION. The address parser (spec/40_address_parser.md R120 to R131): PMAC and PIP are one scan with different
constants. The text is a list of character codes; a position of the rules is the rest of the list from it. -/

namespace Sys2Proof.Machine

/-- The constants of a scan (R6, R120). `laterFields` is `NF - 1`, the fields after the first. -/
structure Grammar where
  laterFields : Nat
  sep : Byte
  base : Nat
  maxTok : Nat
deriving DecidableEq, Repr

/-- MAC strings: six fields, ':', base 16, tokens of at most 2 characters (R6, R125). -/
def macGrammar : Grammar := { laterFields := 5, sep := 0x3A, base := 16, maxTok := 2 }

/-- IPv4 strings: four fields, '.', base 10, tokens of at most 3 characters (R6, R126). -/
def ipGrammar : Grammar := { laterFields := 3, sep := 0x2E, base := 10, maxTok := 3 }

/-- `dig(BASE, c)` (R121): both letter cases are hexadecimal digits; letters are no digits for base 10. -/
def digitValue (base : Nat) (c : Byte) : Option Nat :=
  let n := c.toNat
  if 0x30 ≤ n ∧ n ≤ 0x39 then some (n - 0x30)
  else if base = 16 ∧ 0x41 ≤ n ∧ n ≤ 0x46 then some (n - 0x41 + 10)
  else if base = 16 ∧ 0x61 ≤ n ∧ n ≤ 0x66 then some (n - 0x61 + 10)
  else none

/-- The number that the longest run of digits adds to `v`, exact (the loop of R122). -/
def digitRun (base : Nat) (v : Nat) : List Byte → Nat
  | [] => v
  | c :: t =>
    match digitValue base c with
    | some d => digitRun base (v * base + d) t
    | none => v

/-- `FieldValue(pos)` (R122): the run's value modulo 256; an empty run gives 0. -/
def fieldValue (base : Nat) (t : List Byte) : Byte := BitVec.ofNat 8 (digitRun base 0 t % 256)

/-- The separator search (R123): the token's length and the text after the separator, or `none` when there is
none. -/
def findSeparator (sep : Byte) : List Byte → Option (Nat × List Byte)
  | [] => none
  | c :: t =>
    if c = sep then some (0, t)
    else
      match findSeparator sep t with
      | some (len, rest) => some (len + 1, rest)
      | none => none

/-- Where and why a parse failed (R120). -/
structure ParseError where
  field : Nat
  cause : ParseCause
deriving DecidableEq, Repr

/-- The scan from field `f` on, with `later` more fields after it (R124). The final field (`later = 0`) looks for no
separator and is not length-checked. -/
def scanFields (g : Grammar) : Nat → Nat → List Byte → Except ParseError (List Byte)
  | 0, _, t => .ok [fieldValue g.base t]
  | later + 1, f, t =>
    match findSeparator g.sep t with
    | none => .error { field := f, cause := .missingSep }
    | some (len, rest) =>
      if g.maxTok < len then .error { field := f, cause := .overlen }
      else
        match scanFields g later (f + 1) rest with
        | .ok out => .ok (fieldValue g.base t :: out)
        | .error e => .error e

/-- `ParseAddr` (R124). -/
def parseAddr (g : Grammar) (t : List Byte) : Except ParseError (List Byte) :=
  scanFields g g.laterFields 0 t

/-- PMAC sel (R125). -/
def execPmac (sel : MacReg) (s : State) : Host.Outcome State Fault Refusal :=
  match parseAddr macGrammar (parserText s) with
  | .ok out => .next (parseSucceeded sel.toAddr (writeMac sel (packBytes 48 out) s))
  | .error e => .next (takeAbnormal (.parseError sel.toAddr e.field e.cause) s)

/-- PIP sel (R126). -/
def execPip (sel : IpReg) (s : State) : Host.Outcome State Fault Refusal :=
  match parseAddr ipGrammar (parserText s) with
  | .ok out => .next (parseSucceeded sel.toAddr (writeIp sel (packBytes 32 out) s))
  | .error e => .next (takeAbnormal (.parseError sel.toAddr e.field e.cause) s)

end Sys2Proof.Machine
end

