-- ==== Sys2Proof/Machine/Dispatch.lean ====
section
/-! DEFINITION. The meaning of each command: one arm per constructor of Instr. -/

namespace Sys2Proof.Machine

def exec (i : Instr) (s : State) : Host.Outcome State Fault Refusal :=
  match i with
  | .nop => Sys2Proof.Machine.execNop s
  | .clrerr => Sys2Proof.Machine.execClrerr s
  | .pmac sel => Sys2Proof.Machine.execPmac sel s
  | .pip sel => Sys2Proof.Machine.execPip sel s
  | .csum base count => Sys2Proof.Machine.execCsum base count s
  | .cvfy base count => Sys2Proof.Machine.execCvfy base count s
  | .crc len => Sys2Proof.Machine.execCrc len s
  | .crcd len => Sys2Proof.Machine.execCrcd len s
  | .send => Sys2Proof.Machine.execSend s
  | .build variant => Sys2Proof.Machine.execBuild variant s

end Sys2Proof.Machine
end

