-- ==== Sys2Proof/Machine/HostAccess.lean ====
section
/-! DEFINITION. The host register space (spec/20_memory.md R61 to R64), the delivery of a command (spec/30_encoding.md
R97), and what one action of the outside does. -/

namespace Sys2Proof.Machine

/-- The word of `FB` an address names, if any (R61: 0x10 to 0x1F under the default `FB_WORDS`). -/
def fbIndex (c : Config) (a : HostAddr) : Option Nat :=
  if 0x10 ≤ a.toNat ∧ a.toNat < 0x20 ∧ a.toNat - 0x10 < c.fbWords then some (a.toNat - 0x10) else none

/-- The character of `STR` an address names, if any (R61: 0x40 to 0x7F under the default `STR_MAX`). -/
def strIndex (c : Config) (a : HostAddr) : Option Nat :=
  if 0x40 ≤ a.toNat ∧ a.toNat - 0x40 < c.strMax then some (a.toNat - 0x40) else none

/-- A buffer element as the host reads it (R61); 0 at a reserved address (R64). -/
def readBuffer (a : HostAddr) (s : State) : Word :=
  match fbIndex s.cfg a with
  | some k => fbWord s k
  | none =>
    match strIndex s.cfg a with
    | some k => (strChar s k).setWidth 32
    | none => 0

/-- `HostRead(a)` (R64): the content column of R61; 0 for `CMD` and for reserved addresses. -/
def hostReadValue (a : HostAddr) (s : State) : Word :=
  match a.toNat with
  | 0x00 => 0
  | 0x01 => s.status.toWord
  | 0x02 => s.errinfo.toWord
  | 0x03 => s.strlen.setWidth 32
  | 0x04 => s.idseed.setWidth 32
  | 0x05 => macHi s.dmac
  | 0x06 => macLo s.dmac
  | 0x07 => macHi s.smac
  | 0x08 => macLo s.smac
  | 0x09 => s.sip
  | 0x0A => s.dip
  | 0x0B => s.csfold.setWidth 32
  | 0x0C => s.csres.setWidth 32
  | 0x0D => s.crcres
  | 0x0E => txDesc s.txcount s.txbase s.txbytes s.txvar
  | 0x0F => s.txctrl
  | _ => readBuffer a s

/-- The host gets its answer; CORE's state does not change (R64). -/
def hostRead (a : HostAddr) (s : State) : State :=
  { s with replies := s.replies ++ [{ addr := a, value := hostReadValue a s }] }

/-- `STRLEN <- min(v, 64)` under the default `STR_MAX` (R63). DESIGN CHOICE (notes/assumptions/6.md): under a `STR_MAX`
above 127 the spec does not say what the 7-bit register of R26 stores of a larger minimum; its low 7 bits are stored.
Unsafe for such a `STR_MAX`. -/
def writeStrlen (v : Word) (s : State) : State :=
  { s with strlen := BitVec.ofNat 7 (min v.toNat s.cfg.strMax) }

/-- `IDSEED <- v[15:0]` (R63). -/
def writeIdseed (v : Word) (s : State) : State :=
  { s with idseed := halfLo v }

/-- A host write to `FB[k]` (R63): the word, its mark, and `BUILT` cleared. -/
def hostWriteFb (k : Nat) (v : Word) (s : State) : State :=
  { writeFbWord k v s with status := { s.status with built := false } }

/-- A host write to a buffer element (R63); no effect at a reserved address. -/
def writeBuffer (a : HostAddr) (v : Word) (s : State) : State :=
  match fbIndex s.cfg a with
  | some k => hostWriteFb k v s
  | none =>
    match strIndex s.cfg a with
    | some k => writeStr k (v.setWidth 8) s
    | none => s

/-- A host write to any address but `CMD` (R63); no effect at a read-only or reserved address. -/
def storeRegister (a : HostAddr) (v : Word) (s : State) : State :=
  if a = 0x03 then writeStrlen v s
  else if a = 0x04 then writeIdseed v s
  else writeBuffer a v s

/-- A write of `CMD` (R97): nothing while `FATAL` is set (R266), `ILL` for a word that is no command (R98, R263),
else the command. The order is R267's. -/
def deliverCommand (w : Word) (s : State) : Host.Outcome State Fault Refusal :=
  if s.status.fatal then .next s
  else
    match decode w with
    | .ok i => exec i s
    | .error _ => .next (takeAbnormal .illegal s)

/-- `HostWrite(a, v)` (R63). -/
def hostWrite (a : HostAddr) (v : Word) (s : State) : Host.Outcome State Fault Refusal :=
  if a = 0x00 then deliverCommand v s else .next (storeRegister a v s)

/-- One action of the outside, complete before the next is accepted (R69). -/
def performInput (inp : Input) (s : State) : Host.Outcome State Fault Refusal :=
  match inp with
  | .hostWrite a v => hostWrite a v s
  | .hostRead a => .next (hostRead a s)
  | .reset => .next (applyReset s)

/-- Take the next action and perform it; with none left CORE is idle (R14, R271). -/
def performNext (s : State) : Host.Outcome State Fault Refusal :=
  match s.pending with
  | [] => .next s
  | inp :: rest => performInput inp { s with pending := rest }

/-- `s` with one more action, before all others. -/
def pushInput (inp : Input) (s : State) : State :=
  { s with pending := inp :: s.pending }

end Sys2Proof.Machine
end

