-- ==== Sys2Proof/Machine/Step.lean ====
section
/-! DEFINITION. One step of the machine: one action of the outside (spec/00_scope.md R11, spec/20_memory.md R69). -/

namespace Sys2Proof.Machine

/-- One step: the next pending action takes effect whole. -/
def step (s : State) : Host.Outcome State Fault Refusal := performNext s

/-- `s` with the command word `w` (its low `nbits` bits) as the very next host action: CORE has no program memory, a
command is fetched from the `CMD` write that delivers it (R23, R73). -/
def State.withFetchWord (s : State) (nbits w : Nat) : State :=
  pushInput (.hostWrite 0x00 (BitVec.ofNat 32 (w % 2 ^ nbits))) s

end Sys2Proof.Machine
end

