-- ==== Sys2Proof/Machine/HostMacros.lean ====
section
/-! DEFINITION. The host-side macros of spec/30_encoding.md R108: each expands to host actions in the order shown. They
add nothing to the machine; the host issues what they expand to. -/

namespace Sys2Proof.Machine

/-- A host write at literal numbers. -/
def wr (a v : Nat) : Input := .hostWrite (BitVec.ofNat 7 a) (BitVec.ofNat 32 v)

/-- The writes of characters `k`, `k+1`, ... of a text. -/
def writeChars : Nat → List Byte → List Input
  | _, [] => []
  | k, c :: t => wr (0x40 + k) c.toNat :: writeChars (k + 1) t

/-- `LDSTR text` (R108): requires at most 64 characters. -/
def ldstr (text : List Byte) : List Input := writeChars 0 text ++ [wr 0x03 text.length]

/-- `LDFB k, w` (R108). -/
def ldfb (k : Nat) (w : Word) : Input := .hostWrite (BitVec.ofNat 7 (0x10 + k)) w

/-- The write of `CMD` that issues a command. -/
def issue (i : Instr) : Input := .hostWrite 0x00 (encode i)

/-- `PING variant, smac, dmac, sip, dip, seed` (R108) in its stages: the host looks at `PERR` after each of the first
four and goes on only while it is 0. -/
def pingStages (v : FrameVariant) (smac dmac sip dip : List Byte) (seed : Half) : List (List Input) :=
  [ ldstr dmac ++ [issue (.pmac .dmac)],
    ldstr smac ++ [issue (.pmac .smac)],
    ldstr sip ++ [issue (.pip .sip)],
    ldstr dip ++ [issue (.pip .dip)],
    [wr 0x04 seed.toNat, issue (.build v), issue .send] ]

/-- Perform a list of actions in order, stopping at the first fault or refusal (R14, R69). -/
def performAll : List Input → State → Host.Outcome State Fault Refusal
  | [], s => .next s
  | inp :: rest, s =>
    match performInput inp s with
    | .next t => performAll rest t
    | .fault f => .fault f
    | .refused r => .refused r

/-- Perform the stages while `PERR` is 0 after each, as the host of R108 does. -/
def performStages : List (List Input) → State → Host.Outcome State Fault Refusal
  | [], s => .next s
  | stage :: rest, s =>
    match performAll stage s with
    | .next t => if t.status.perr then .next t else performStages rest t
    | .fault f => .fault f
    | .refused r => .refused r

end Sys2Proof.Machine
end

