-- ==== Sys2Proof/Safety.lean ====
section
/-! DEFINITION. The terms the statements use: which parameter settings the layout rules hold under, what a state keeps
along every run, and independent readings of the checksum and the CRC. -/

namespace Sys2Proof.Safety

open Sys2Proof.Machine

/-! ## Parameter settings -/

/-- The buffers hold the full layout and fit the host's address map (R61, R201; default 16 and 64). -/
abbrev buffersSized (c : Config) : Prop := 14 ≤ c.fbWords ∧ c.fbWords ≤ 16 ∧ c.strMax ≤ 64

/-- Each variant's window ends where its layout ends (R202, U9): the counts 14, 12, 11, 9. -/
abbrev windowsFit (c : Config) : Prop :=
  ∀ v ∈ [FrameVariant.ss, .sh, .hs, .hh], (windowBase v).toNat + (wordCount c v).toNat = layoutWords v

/-- The four fields of the control word lie in 32 bits and do not overlap, and every count fits its field (U8). -/
abbrev controlFieldsDisjoint (c : Config) : Prop :=
  (c.ctrlGoBit < 32 ∧ c.ctrlNohwcrcBit < 32 ∧ c.ctrlNohwmacBit < 32 ∧ c.ctrlWcShift + c.ctrlWcWidth ≤ 32)
    ∧ (c.ctrlGoBit ≠ c.ctrlNohwcrcBit ∧ c.ctrlGoBit ≠ c.ctrlNohwmacBit ∧ c.ctrlNohwcrcBit ≠ c.ctrlNohwmacBit)
    ∧ (∀ b ∈ [c.ctrlGoBit, c.ctrlNohwcrcBit, c.ctrlNohwmacBit], b < c.ctrlWcShift ∨ c.ctrlWcShift + c.ctrlWcWidth ≤ b)
    ∧ (∀ v ∈ [FrameVariant.ss, .sh, .hs, .hh], (wordCount c v).toNat < 2 ^ c.ctrlWcWidth)

/-- A setting under which every rule of BUILD and SEND holds. -/
abbrev configOk (c : Config) : Prop := buffersSized c ∧ windowsFit c ∧ controlFieldsDisjoint c

/-! ## What every run keeps -/

/-- The byte stores are canonical, list only addresses of their buffers, mark whole words of `FB` (R37), and the text
lies in the string buffer (R26). -/
abbrev buffersCanonical (s : State) : Prop :=
  Memory.wf s.fb ∧ Memory.wf s.str
    ∧ (∀ x ∈ s.fb, x.1 < 4 * s.cfg.fbWords)
    ∧ (∀ x ∈ s.str, x.1 < s.cfg.strMax)
    ∧ (∀ k < s.cfg.fbWords, ∀ j < 4, Memory.marked s.fb (4 * k + j) = fbMarked s k)
    ∧ s.strlen.toNat ≤ s.cfg.strMax

/-- While `BUILT` is set, the descriptor and the control word are those of the built variant (R202, R215, R216), and in
a software-CRC variant `FB[13]` is the check sequence of the words before it (R214). -/
abbrev frameDescribed (s : State) : Prop :=
  s.status.built = true →
    s.txbase = windowBase s.txvar
      ∧ s.txcount = wordCount s.cfg s.txvar
      ∧ s.txbytes.toNat = 4 * s.txcount.toNat
      ∧ s.txctrl = controlWord s.cfg s.txvar s.txcount
      ∧ (hwCrc s.txvar = false → fbWord s 13 = crc32 s (buildCrcLen s.cfg) false)

/-- One hand-over's bulk write and control write agree (R224 a, c): the listed count, the number of words and the
word-count field of the control word are one number, and `NOHWMAC` tells whether MAC writes precede. -/
def handOverAgrees (c : Config) (nohwmac : Bool) (count : Nat) (words : List Word) (ctrl : Word) : Bool :=
  count == words.length && controlCount c ctrl == count && ctrl.getLsbD c.ctrlNohwmacBit == nohwmac

/-- `TXLOG` is a sequence of whole hand-overs (R224 a, b, c): a bulk write directly followed by its control write,
directly preceded by the two MAC writes exactly when `NOHWMAC` is 0. -/
def logOfHandOvers (c : Config) : List TxEvent → Bool
  | [] => true
  | .writeBulk count words :: .writeTxCmd ctrl :: rest =>
    handOverAgrees c true count words ctrl && logOfHandOvers c rest
  | .writeMacDst _ :: .writeMacSrc _ :: .writeBulk count words :: .writeTxCmd ctrl :: rest =>
    handOverAgrees c false count words ctrl && logOfHandOvers c rest
  | _ => false

/-! ## Independent readings -/

/-- The half-words of a region summed as unbounded naturals (R152, R15). -/
def regionTotal (s : State) (base count : Nat) : Nat :=
  ((List.range count).map fun k =>
    (halfHi (fbWord s (base + k))).toNat + (halfLo (fbWord s (base + k))).toNat).sum

/-- End-around-carry folding as arithmetic: 0 for 0, else the representative in 1 to 0xFFFF modulo 0xFFFF (R158,
R159). -/
def foldTotal (total : Nat) : Nat := if total = 0 then 0 else (total - 1) % 0xFFFF + 1

/-- A reflected CRC register clocked by one data bit. -/
def serialStep (acc : Word) (bit : Bool) : Word :=
  if acc.getLsbD 0 != bit then (acc >>> 1) ^^^ 0xEDB88320#32 else acc >>> 1

/-- A byte clocked in, bit 0 first (R175). -/
def serialByte (acc : Word) (b : Byte) : Word :=
  (List.range 8).foldl (fun a j => serialStep a (b.getLsbD j)) acc

/-- The stream bytes below `len` except indices 14 and 15, in order (R181 a). -/
def unskippedBytes (s : State) (len : Nat) : List Byte :=
  ((List.range len).filter fun i => i ≠ 14 ∧ i ≠ 15).map (frameByte s)

/-- The stream length a `byteLength` reaches: itself by index (R171), 2 more past 14 when processed bytes are counted
(R182). -/
def streamLength (c : Config) (len : Nat) : Nat :=
  match c.crcLenMode with
  | .indexBound => len
  | .processedCount => if len ≤ 14 then len else len + 2

/-- A text of tokens, each but the last followed by the separator. -/
def joinTokens (sep : Byte) : List (List Byte) → List Byte → List Byte
  | [], last => last
  | t :: ts, last => t ++ sep :: joinTokens sep ts last

/-- A legal non-final token (R123, R124): no separator in it, at most `maxTok` characters. -/
abbrev tokenOk (g : Grammar) (t : List Byte) : Prop := g.sep ∉ t ∧ t.length ≤ g.maxTok

/-- The reason a command is refused with `EOPER`, from the list of R264. -/
def operandRefused (s : State) : Instr → Bool
  | .nop => false
  | .clrerr => false
  | .pmac _ => false
  | .pip _ => false
  | .csum base count => s.cfg.fbWords < base + count
  | .cvfy base count => s.cfg.fbWords < base + count
  | .crc len => crcMaxLen s.cfg < len
  | .crcd len => !s.cfg.crcDebugEnable || decide (crcMaxLen s.cfg < len)
  | .send => !s.status.built
  | .build _ => !(s.status.dmacv && s.status.smacv && s.status.sipv && s.status.dipv)

end Sys2Proof.Safety
end

