-- ==== Sys2Proof/Certificates/Slice0/Obligations.lean ====
section
/-! DEFINITION. The statements for the provers. Each docstring names the rules of spec/ it says.
A host action of the rules is the first entry of `pending`, and a host read's answer the last entry of `replies`: both
lists are the model's own (notes/assumptions/1.md). An element of a buffer that nothing has written reads as a free
value (notes/assumptions/3.md); no statement rests on which. -/

open Sys2Proof Sys2Proof.Machine Sys2Proof.Safety

/-! ## Encoding -/

/-- R90, R91, R92: every well-formed command is what its word decodes to, with every operand at every value. -/
def Obligations.DecodeOfEncode : Prop :=
  ∀ i : Instr, i.wellFormed = true → decode (encode i) = .ok i

/-- R90, R91, R92: a word that decodes is the encoding of what it decodes to, so no bit of it is dropped. -/
def Obligations.EncodeOfDecode : Prop :=
  ∀ (w : Word) (i : Instr), decode w = .ok i → encode i = w ∧ i.wellFormed = true

/-- R92: the ten rows of the opcode map; a word is a row's command exactly when it matches the row, it is illegal
exactly when it matches none, and no word matches two rows. -/
def Obligations.DecoderFollowsOpcodeMap : Prop :=
  (opcodeRows.map fun r => (r.mnemonic, r.pattern.toNat, r.mask.toNat))
      = [("NOP", 0x00000000, 0xFFFFFFFF), ("CLRERR", 0x10000000, 0xFFFFFFFF), ("PMAC", 0x20000000, 0xFFFFFFFE),
          ("PIP", 0x30000002, 0xFFFFFFFE), ("CSUM", 0x40000000, 0xFFFFF0E0), ("CVFY", 0x50000000, 0xFFFFF0E0),
          ("CRC", 0x60000000, 0xFFFFFF80), ("CRCD", 0x60000100, 0xFFFFFF80), ("SEND", 0x70000000, 0xFFFFFFFF),
          ("BUILD", 0x80000000, 0xFFFFFFFC)]
    ∧ ∀ w : Word,
        (∀ r ∈ opcodeRows, w &&& r.mask = r.pattern ↔ ∃ i, decode w = .ok i ∧ i.mnemonic = r.mnemonic)
        ∧ ((∀ r ∈ opcodeRows, w &&& r.mask ≠ r.pattern) ↔ ∃ e, decode w = .error e)
        ∧ ∀ r ∈ opcodeRows, ∀ q ∈ opcodeRows, w &&& r.mask = r.pattern → w &&& q.mask = q.pattern → r = q

/-- R97: a write of `CMD` does nothing while `FATAL` is set, sets `ILL` for a word that matches no row of R92, and
otherwise runs the command of the one row it matches with the fields taken from the word. -/
def Obligations.CommandWriteFollowsOpcodeMap : Prop :=
  ∀ (s : State) (w : Word) (rest : List Input), s.pending = .hostWrite 0x00 w :: rest →
    (s.status.fatal = true → step s = .next { s with pending := rest })
    ∧ (s.status.fatal = false → (∀ r ∈ opcodeRows, r.matchesWord w = false) →
        step s = .next { s with pending := rest, status := { s.status with ill := true } })
    ∧ (s.status.fatal = false → ∀ r ∈ opcodeRows, r.matchesWord w = true →
        (∀ q ∈ opcodeRows, q.matchesWord w = true → q = r)
        ∧ ∃ i : Instr, i.mnemonic = r.mnemonic ∧ encode i = w ∧ step s = exec i { s with pending := rest })

/-- R97: a step whose next host action delivers a word that decodes runs exactly that command, on the state less the
action. -/
def Obligations.StepRunsTheDecodedCommand : Prop :=
  ∀ (s : State) (w : Word) (rest : List Input) (i : Instr),
    s.pending = .hostWrite 0x00 w :: rest → s.status.fatal = false → decode w = .ok i →
      step s = exec i { s with pending := rest }

/-- R92: words written out from the opcode map decode to the commands they stand for. -/
def Obligations.WrittenOutWordsDecode : Prop :=
  decode 0x00000000 = .ok .nop
    ∧ decode 0x10000000 = .ok .clrerr
    ∧ decode 0x20000001 = .ok (.pmac .smac)
    ∧ decode 0x30000003 = .ok (.pip .dip)
    ∧ decode 0x40000F02 = .ok (.csum 15 2)
    ∧ decode 0x50000405 = .ok (.cvfy 4 5)
    ∧ decode 0x6000007F = .ok (.crc 127)
    ∧ decode 0x60000114 = .ok (.crcd 20)
    ∧ decode 0x70000000 = .ok .send
    ∧ decode 0x80000002 = .ok (.build .hs)

/-! ## The host register space -/

/-- R63, R24, R37: a host write to `FB[k]` stores and marks that word, clears `BUILT`, and leaves every other byte of
the stream and every other register as it was. (For buffers of fewer than 16 words the map is the model's choice,
notes/assumptions/6.md.) -/
def Obligations.HostWriteOfFrameWord : Prop :=
  ∀ (s : State) (k : Nat) (v : Word) (rest : List Input), s.cfg.fbWords ≤ 16 → k < s.cfg.fbWords →
    s.pending = .hostWrite (BitVec.ofNat 7 (0x10 + k)) v :: rest →
    ∃ t, step s = .next t
      ∧ t = { s with pending := rest, fb := t.fb, status := { s.status with built := false } }
      ∧ fbWord t k = v ∧ fbMarked t k = true
      ∧ ∀ i, i / 4 ≠ k → frameByte t i = frameByte s i ∧ Memory.marked t.fb i = Memory.marked s.fb i

/-- R63, R25, R37: a host write to `STR[k]` stores the low 8 bits, marks that character, and leaves every other
character and every register as it was. (For buffers of fewer than 64 characters the map is the model's choice,
notes/assumptions/6.md.) -/
def Obligations.HostWriteOfCharacter : Prop :=
  ∀ (s : State) (k : Nat) (v : Word) (rest : List Input), s.cfg.strMax ≤ 64 → k < s.cfg.strMax →
    s.pending = .hostWrite (BitVec.ofNat 7 (0x40 + k)) v :: rest →
    ∃ t, step s = .next t
      ∧ t = { s with pending := rest, str := t.str }
      ∧ strChar t k = v.setWidth 8 ∧ Memory.marked t.str k = true
      ∧ ∀ j, j ≠ k → strChar t j = strChar s j ∧ Memory.marked t.str j = Memory.marked s.str j

/-- R63, R26, R27: `STRLEN <- min(v, 64)` and `IDSEED <- v[15:0]`, and nothing else. -/
def Obligations.HostWriteOfLengthAndSeed : Prop :=
  ∀ (s : State) (v : Word) (rest : List Input),
    (s.cfg.strMax = 64 → s.pending = .hostWrite 0x03 v :: rest →
      ∃ n : BitVec 7, n.toNat = min v.toNat 64 ∧ step s = .next { s with pending := rest, strlen := n })
    ∧ (s.pending = .hostWrite 0x04 v :: rest →
      ∃ n : Half, n.toNat = v.toNat % 2 ^ 16 ∧ step s = .next { s with pending := rest, idseed := n })

/-- R63, R61: a host write to a read-only or reserved address has no effect. -/
def Obligations.HostWriteElsewhereIsIgnored : Prop :=
  ∀ (s : State) (a : HostAddr) (v : Word) (rest : List Input), s.cfg.fbWords = 16 → s.cfg.strMax = 64 →
    (a.toNat = 0x01 ∨ a.toNat = 0x02 ∨ (0x05 ≤ a.toNat ∧ a.toNat ≤ 0x0F) ∨ (0x20 ≤ a.toNat ∧ a.toNat ≤ 0x3F)) →
    s.pending = .hostWrite a v :: rest → step s = .next { s with pending := rest }

/-- R64, R61: a host read changes nothing in CORE and returns the content column of the map; 0 for `CMD` and for
reserved addresses. -/
def Obligations.HostReadReturnsTheMap : Prop :=
  ∀ (s : State) (a : HostAddr) (rest : List Input), s.pending = .hostRead a :: rest →
    s.cfg.fbWords = 16 → s.cfg.strMax = 64 →
    ∃ v : Word, step s = .next { s with pending := rest, replies := s.replies ++ [{ addr := a, value := v }] }
      ∧ (a.toNat = 0x00 ∨ (0x20 ≤ a.toNat ∧ a.toNat ≤ 0x3F) → v = 0)
      ∧ (a.toNat = 0x01 → v = s.status.toWord)
      ∧ (a.toNat = 0x02 → v = s.errinfo.toWord)
      ∧ (a.toNat = 0x03 → v.toNat = s.strlen.toNat)
      ∧ (a.toNat = 0x04 → v.toNat = s.idseed.toNat)
      ∧ (a.toNat = 0x05 → v.toNat = s.dmac.toNat / 2 ^ 32)
      ∧ (a.toNat = 0x06 → v.toNat = s.dmac.toNat % 2 ^ 32)
      ∧ (a.toNat = 0x07 → v.toNat = s.smac.toNat / 2 ^ 32)
      ∧ (a.toNat = 0x08 → v.toNat = s.smac.toNat % 2 ^ 32)
      ∧ (a.toNat = 0x09 → v = s.sip)
      ∧ (a.toNat = 0x0A → v = s.dip)
      ∧ (a.toNat = 0x0B → v.toNat = s.csfold.toNat)
      ∧ (a.toNat = 0x0C → v.toNat = s.csres.toNat)
      ∧ (a.toNat = 0x0D → v = s.crcres)
      ∧ (a.toNat = 0x0E → v = txDesc s.txcount s.txbase s.txbytes s.txvar)
      ∧ (a.toNat = 0x0F → v = s.txctrl)
      ∧ (0x10 ≤ a.toNat ∧ a.toNat ≤ 0x1F → v = fbWord s (a.toNat - 0x10))
      ∧ (0x40 ≤ a.toNat → v.toNat = (strChar s (a.toNat - 0x40)).toNat)

/-- R32: the bits of `STATUS`; bits not listed read 0. -/
def Obligations.StatusWordHoldsTheFlags : Prop :=
  ∀ f : Status,
    (f.toWord.getLsbD 0 = f.perr ∧ f.toWord.getLsbD 1 = f.ill ∧ f.toWord.getLsbD 2 = f.eoper
      ∧ f.toWord.getLsbD 3 = f.fatal ∧ f.toWord.getLsbD 4 = f.built ∧ f.toWord.getLsbD 5 = f.vok
      ∧ f.toWord.getLsbD 8 = f.dmacv ∧ f.toWord.getLsbD 9 = f.smacv ∧ f.toWord.getLsbD 10 = f.sipv
      ∧ f.toWord.getLsbD 11 = f.dipv)
    ∧ ∀ i, i ∉ [0, 1, 2, 3, 4, 5, 8, 9, 10, 11] → f.toWord.getLsbD i = false

/-- R33: the fields of `ERRINFO`; all other bits read 0. -/
def Obligations.ErrinfoWordHoldsTheRecord : Prop :=
  ∀ e : ErrInfo,
    e.toWord.extractLsb' 0 2 = e.src.code
    ∧ e.toWord.extractLsb' 4 3 = e.field
    ∧ e.toWord.getLsbD 8 = decide (e.cause = .overlen)
    ∧ e.toWord.getLsbD 31 = e.ev
    ∧ ∀ i, i ∉ [0, 1, 4, 5, 6, 8, 31] → e.toWord.getLsbD i = false

/-- R62: `TXDESC` packs the transmit descriptor; other bits 0. -/
def Obligations.TxdescPacksTheDescriptor : Prop :=
  ∀ s : State,
    (hostReadValue 0x0E s).extractLsb' 0 5 = s.txcount
    ∧ (hostReadValue 0x0E s).extractLsb' 8 4 = s.txbase
    ∧ (hostReadValue 0x0E s).extractLsb' 16 7 = s.txbytes
    ∧ (hostReadValue 0x0E s).extractLsb' 24 2 = s.txvar.code
    ∧ ∀ i, (5 ≤ i ∧ i < 8) ∨ (12 ≤ i ∧ i < 16) ∨ i = 23 ∨ 26 ≤ i → (hostReadValue 0x0E s).getLsbD i = false

/-- R69, R63, R64: a read of a frame word returns the value of the write before it. (For buffers of fewer than 16 words
the map is the model's choice, notes/assumptions/6.md.) -/
def Obligations.FrameWordReadsBack : Prop :=
  ∀ (s : State) (k : Nat) (v : Word) (rest : List Input), s.cfg.fbWords ≤ 16 → k < s.cfg.fbWords →
    s.pending = .hostWrite (BitVec.ofNat 7 (0x10 + k)) v :: .hostRead (BitVec.ofNat 7 (0x10 + k)) :: rest →
    ∃ t u, step s = .next t ∧ step t = .next u
      ∧ u.replies = s.replies ++ [{ addr := BitVec.ofNat 7 (0x10 + k), value := v }]

/-- R173: byte `i` of the stream comes from word `i/4`, shifted right by `24 - 8*(i%4)`. -/
def Obligations.FrameByteComesFromItsWord : Prop :=
  ∀ (s : State) (i : Nat), frameByte s i = (fbWord s (i / 4) >>> (24 - 8 * (i % 4))).setWidth 8

/-- R108: `LDSTR` leaves the parser exactly the text, and writes nothing but the string buffer and its length. -/
def Obligations.LdstrLoadsTheText : Prop :=
  ∀ (s : State) (text : List Byte), text.length ≤ 64 → s.cfg.strMax = 64 →
    ∃ t, performAll (ldstr text) s = .next t ∧ parserText t = text
      ∧ t = { s with str := t.str, strlen := t.strlen }

/-! ## The address parser -/

/-- R121: the digits of both bases. -/
def Obligations.DigitsOfBothBases : Prop :=
  ∀ (c : Byte) (d : Nat),
    (digitValue 10 c = some d ↔ 0x30 ≤ c.toNat ∧ c.toNat ≤ 0x39 ∧ d = c.toNat - 0x30)
    ∧ (digitValue 16 c = some d ↔
        (0x30 ≤ c.toNat ∧ c.toNat ≤ 0x39 ∧ d = c.toNat - 0x30)
        ∨ (0x41 ≤ c.toNat ∧ c.toNat ≤ 0x46 ∧ d = c.toNat - 0x41 + 10)
        ∨ (0x61 ≤ c.toNat ∧ c.toNat ≤ 0x66 ∧ d = c.toNat - 0x61 + 10))

/-- R122: a field's value is that of the longest run of digits at its start, exact, modulo 256; what follows the run
does not change it. -/
def Obligations.FieldValueIsDigitRunModulo256 : Prop :=
  ∀ (base : Nat) (digits rest : List Byte),
    (∀ c ∈ digits, (digitValue base c).isSome = true) →
    (∀ c, rest.head? = some c → digitValue base c = none) →
    (fieldValue base (digits ++ rest)).toNat
      = (digits.foldl (fun v c => v * base + (digitValue base c).getD 0) 0) % 256

/-- R125, R124: six fields, the first five with legal tokens: PMAC writes their values, first field most significant,
sets the valid bit and clears `PERR`, and changes nothing else. -/
def Obligations.PmacParsesSixFields : Prop :=
  ∀ (sel : MacReg) (s : State) (toks : List (List Byte)) (last : List Byte),
    toks.length = 5 → (∀ t ∈ toks, tokenOk macGrammar t) → parserText s = joinTokens 0x3A toks last →
    ∃ m : Mac, (∀ k t, (toks ++ [last])[k]? = some t → macByte m k = fieldValue 16 t)
      ∧ exec (.pmac sel) s = .next
          { s with
            dmac := if sel = .dmac then m else s.dmac
            smac := if sel = .smac then m else s.smac
            status := { s.status with
              perr := false
              dmacv := s.status.dmacv || decide (sel = .dmac)
              smacv := s.status.smacv || decide (sel = .smac) } }

/-- R126, R124: the same for PIP with four fields. -/
def Obligations.PipParsesFourFields : Prop :=
  ∀ (sel : IpReg) (s : State) (toks : List (List Byte)) (last : List Byte),
    toks.length = 3 → (∀ t ∈ toks, tokenOk ipGrammar t) → parserText s = joinTokens 0x2E toks last →
    ∃ a : Word, (∀ k t, (toks ++ [last])[k]? = some t → byteOf a k = fieldValue 10 t)
      ∧ exec (.pip sel) s = .next
          { s with
            sip := if sel = .sip then a else s.sip
            dip := if sel = .dip then a else s.dip
            status := { s.status with
              perr := false
              sipv := s.status.sipv || decide (sel = .sip)
              dipv := s.status.dipv || decide (sel = .dip) } }

/-- R124, R127, R262: PMAC stops at the first field whose separator is missing or whose token has 3 or more
characters, with exactly the effects of R262: the register keeps its bits, its valid bit is cleared. -/
def Obligations.PmacReportsFirstFailingField : Prop :=
  ∀ (sel : MacReg) (s : State) (toks : List (List Byte)) (bad rest : List Byte),
    toks.length ≤ 4 → (∀ t ∈ toks, tokenOk macGrammar t) → 0x3A ∉ bad →
    (parserText s = joinTokens 0x3A toks bad →
      exec (.pmac sel) s = .next
        { s with
          status := { s.status with
            perr := true
            dmacv := s.status.dmacv && decide (sel ≠ .dmac)
            smacv := s.status.smacv && decide (sel ≠ .smac) }
          errinfo := { ev := true, cause := .missingSep, field := BitVec.ofNat 3 toks.length, src := sel.toAddr } })
    ∧ (2 < bad.length → parserText s = joinTokens 0x3A (toks ++ [bad]) rest →
      exec (.pmac sel) s = .next
        { s with
          status := { s.status with
            perr := true
            dmacv := s.status.dmacv && decide (sel ≠ .dmac)
            smacv := s.status.smacv && decide (sel ≠ .smac) }
          errinfo := { ev := true, cause := .overlen, field := BitVec.ofNat 3 toks.length, src := sel.toAddr } })

/-- R124, R127, R262: the same for PIP, whose tokens may have 3 characters. -/
def Obligations.PipReportsFirstFailingField : Prop :=
  ∀ (sel : IpReg) (s : State) (toks : List (List Byte)) (bad rest : List Byte),
    toks.length ≤ 2 → (∀ t ∈ toks, tokenOk ipGrammar t) → 0x2E ∉ bad →
    (parserText s = joinTokens 0x2E toks bad →
      exec (.pip sel) s = .next
        { s with
          status := { s.status with
            perr := true
            sipv := s.status.sipv && decide (sel ≠ .sip)
            dipv := s.status.dipv && decide (sel ≠ .dip) }
          errinfo := { ev := true, cause := .missingSep, field := BitVec.ofNat 3 toks.length, src := sel.toAddr } })
    ∧ (3 < bad.length → parserText s = joinTokens 0x2E (toks ++ [bad]) rest →
      exec (.pip sel) s = .next
        { s with
          status := { s.status with
            perr := true
            sipv := s.status.sipv && decide (sel ≠ .sip)
            dipv := s.status.dipv && decide (sel ≠ .dip) }
          errinfo := { ev := true, cause := .overlen, field := BitVec.ofNat 3 toks.length, src := sel.toAddr } })

/-- R130: on every text PMAC and PIP answer, and write only the selected address register, its valid bit, `PERR` and
(on failure) `ERRINFO`; on failure the register keeps its bits. -/
def Obligations.ParsesTouchOnlyTheirRegister : Prop :=
  (∀ (sel : MacReg) (s : State), ∃ t, exec (.pmac sel) s = .next t
    ∧ t = { s with
        dmac := if sel = .dmac ∧ t.status.perr = false then t.dmac else s.dmac
        smac := if sel = .smac ∧ t.status.perr = false then t.smac else s.smac
        status := { s.status with
          perr := t.status.perr
          dmacv := if sel = .dmac then !t.status.perr else s.status.dmacv
          smacv := if sel = .smac then !t.status.perr else s.status.smacv }
        errinfo := if t.status.perr = true then t.errinfo else s.errinfo })
  ∧ (∀ (sel : IpReg) (s : State), ∃ t, exec (.pip sel) s = .next t
    ∧ t = { s with
        sip := if sel = .sip ∧ t.status.perr = false then t.sip else s.sip
        dip := if sel = .dip ∧ t.status.perr = false then t.dip else s.dip
        status := { s.status with
          perr := t.status.perr
          sipv := if sel = .sip then !t.status.perr else s.status.sipv
          dipv := if sel = .dip then !t.status.perr else s.status.dipv }
        errinfo := if t.status.perr = true then t.errinfo else s.errinfo })

/-! ## The checksum engine -/

/-- R156 with R152 to R154: CSUM over a region of the 16-word buffer stores the folded sum of its half-words and its
complement, and changes nothing else; a region that leaves the buffer is refused. -/
def Obligations.CsumStoresFoldedSumAndComplement : Prop :=
  ∀ (base count : Nat) (s : State), s.cfg.fbWords = 16 →
    (base + count ≤ 16 →
      ∃ f c : Half, f.toNat = foldTotal (regionTotal s base count) ∧ c.toNat = 0xFFFF - f.toNat
        ∧ exec (.csum base count) s = .next { s with csfold := f, csres := c })
    ∧ (16 < base + count →
      exec (.csum base count) s = .next { s with status := { s.status with eoper := true } })

/-- R157: CVFY over a region of the 16-word buffer stores the folded sum, sets `VOK` exactly when it is 0xFFFF, and
changes nothing else; a region that leaves the buffer is refused. -/
def Obligations.CvfyReportsAllOnesFold : Prop :=
  ∀ (base count : Nat) (s : State), s.cfg.fbWords = 16 →
    (base + count ≤ 16 →
      ∃ f : Half, f.toNat = foldTotal (regionTotal s base count)
        ∧ exec (.cvfy base count) s = .next
            { s with csfold := f, status := { s.status with vok := decide (f.toNat = 0xFFFF) } })
    ∧ (16 < base + count →
      exec (.cvfy base count) s = .next { s with status := { s.status with eoper := true } })

/-- R158: a region whose checksum field is zero, with its own result put into the field, folds to 0xFFFF, and its
result is then 0. With the inverted result in the field it does so only if the region without it does. -/
def Obligations.PatchedRegionFoldsToAllOnes : Prop :=
  ∀ (base count : Nat) (s : State), 3 ≤ count → base + count ≤ 16 → halfLo (fbWord s (base + 2)) = 0 →
    csum (writeFbWord (base + 2) (wordOfHalves (halfHi (fbWord s (base + 2))) (csum s base count).2) s) base count
      = (0xFFFF, 0)
    ∧ ((csum (writeFbWord (base + 2)
          (wordOfHalves (halfHi (fbWord s (base + 2))) ((csum s base count).2 ^^^ 0xFFFF)) s) base count).1 = 0xFFFF
        ↔ (csum s base count).1 = 0xFFFF)

/-- R153, R159: two folds bring every 32-bit accumulator to a zero high half, and folding is end-around carry. -/
def Obligations.TwoFoldsSuffice : Prop :=
  ∀ acc : Word, halfHi (foldRounds 2 acc) = 0 ∧ (fold acc).toNat = foldTotal acc.toNat

/-! ## The CRC engine -/

/-- R175 (G5): XORing a byte into the low bits and shifting eight times feeds its bits one at a time, bit 0 first. -/
def Obligations.CrcByteIsEightSerialSteps : Prop :=
  ∀ (acc : Word) (b : Byte), crcByte acc b = serialByte acc b

/-- R178 with R177, R181 a, R182: with the 16-word buffer, CRC stores the byte-reversed conventional reflected CRC-32 of
the stream bytes below its length, as `CRC_LEN_MODE` counts it (lengths to 64 by index, to 62 by count), except 14 and
15, and changes nothing else; a length above 64 is refused. -/
def Obligations.CrcStoresReversedConventionalCrc : Prop :=
  ∀ (len : Nat) (s : State), s.cfg.fbWords = 16 →
    (len ≤ (match s.cfg.crcLenMode with | .indexBound => 64 | .processedCount => 62) →
      ∃ r : Word,
        (∀ k < 4, byteOf r k
          = byteOf ((unskippedBytes s (streamLength s.cfg len)).foldl serialByte 0xFFFFFFFF#32 ^^^ 0xFFFFFFFF#32)
              (3 - k))
        ∧ exec (.crc len) s = .next { s with crcres := r })
    ∧ (64 < len → exec (.crc len) s = .next { s with status := { s.status with eoper := true } })

/-- R179: CRCD makes neither inversion; skip, bit loop and byte reversal are unchanged. It is refused when disabled and
for a length above 64. -/
def Obligations.CrcdDropsBothInversions : Prop :=
  ∀ (len : Nat) (s : State), s.cfg.fbWords = 16 →
    (s.cfg.crcDebugEnable = true →
      len ≤ (match s.cfg.crcLenMode with | .indexBound => 64 | .processedCount => 62) →
      ∃ r : Word,
        (∀ k < 4, byteOf r k
          = byteOf ((unskippedBytes s (streamLength s.cfg len)).foldl serialByte 0#32) (3 - k))
        ∧ exec (.crcd len) s = .next { s with crcres := r })
    ∧ (s.cfg.crcDebugEnable = false ∨ 64 < len →
      exec (.crcd len) s = .next { s with status := { s.status with eoper := true } })

/-- R181 b, c: the result depends neither on stream bytes 14 and 15 nor on any at or above `len`, and the lengths 14,
15 and 16 give one result. -/
def Obligations.CrcIgnoresSkippedAndLaterBytes : Prop :=
  (∀ (s t : State) (len : Nat) (debug : Bool), s.cfg.crcLenMode = .indexBound → t.cfg.crcLenMode = .indexBound →
    (∀ i < len, i ≠ 14 → i ≠ 15 → frameByte s i = frameByte t i) → crc32 s len debug = crc32 t len debug)
  ∧ (∀ (s : State) (debug : Bool), s.cfg.crcLenMode = .indexBound →
    crc32 s 15 debug = crc32 s 14 debug ∧ crc32 s 16 debug = crc32 s 14 debug)

/-- R182: counting processed bytes, a length up to 14 is the same length by index, and a longer one is that length by
index plus 2; the legal range ends 2 earlier. -/
def Obligations.CountModeIsIndexModeShifted : Prop :=
  ∀ (s t : State) (n : Nat) (debug : Bool),
    s.cfg.crcLenMode = .processedCount → t = { s with cfg := { s.cfg with crcLenMode := .indexBound } } →
      crc32 s n debug = crc32 t (if n ≤ 14 then n else n + 2) debug
      ∧ (s.cfg.fbWords = 16 → (crcMaxLen s.cfg = 62 ∧ crcMaxLen t.cfg = 64))

/-! ## The frame builder -/

/-- R203, R202, R215, R216, R217: BUILD is refused unless the four addresses are valid. Then it completes: it sets
the window, the control word and `BUILT`, and leaves every register R217 lists as it was. The self-check never stops
it. -/
def Obligations.BuildSetsDescriptorAndControlWord : Prop :=
  ∀ (v : FrameVariant) (s : State),
    (s.status.dmacv = false ∨ s.status.smacv = false ∨ s.status.sipv = false ∨ s.status.dipv = false →
      exec (.build v) s = .next { s with status := { s.status with eoper := true } })
    ∧ (s.status.dmacv = true → s.status.smacv = true → s.status.sipv = true → s.status.dipv = true →
      layoutWords v ≤ s.cfg.fbWords → windowsFit s.cfg →
      ∃ t, exec (.build v) s = .next t
        ∧ t.txbase.toNat = (if v = .hs ∨ v = .hh then 3 else 0)
        ∧ t.txcount.toNat = (match v with | .ss => 14 | .sh => 12 | .hs => 11 | .hh => 9)
        ∧ t.txbytes.toNat = 4 * t.txcount.toNat
        ∧ t.txctrl = 1#32 <<< s.cfg.ctrlGoBit
            ||| t.txcount.setWidth 32 <<< s.cfg.ctrlWcShift
            ||| (if v = .ss ∨ v = .hs then 1#32 else 0#32) <<< s.cfg.ctrlNohwcrcBit
            ||| (if v = .ss ∨ v = .sh then 1#32 else 0#32) <<< s.cfg.ctrlNohwmacBit
        ∧ t = { s with
            fb := t.fb, csfold := t.csfold, csres := t.csres, crcres := t.crcres, txbase := t.txbase
            txcount := t.txcount, txbytes := t.txbytes, txvar := v, txctrl := t.txctrl
            status := { s.status with built := true } })

/-- R201, R204 to R208, R210 to R212: what BUILD leaves in `FB[0..11]`, all of them marked, and in `CSFOLD` and
`CSRES`. The two checksums are the complements of the folded sums of the header and of the ICMP region. -/
def Obligations.BuildLaysOutTheFrame : Prop :=
  ∀ (v : FrameVariant) (s t : State), s.status.allValid = true → layoutWords v ≤ s.cfg.fbWords →
    exec (.build v) s = .next t →
    ∃ f f2 : Half,
      f.toNat = foldTotal (0x4500 + s.cfg.ipTos.toNat + s.cfg.ipTotlen.toNat + s.idseed.toNat
        + s.cfg.ipFlagsFrag.toNat + (256 * s.cfg.ipTtl.toNat + s.cfg.ipProto.toNat)
        + (s.sip.toNat / 65536 + s.sip.toNat % 65536) + (s.dip.toNat / 65536 + s.dip.toNat % 65536))
      ∧ f2.toNat = foldTotal (0x0800 + (s.cfg.icmpIdseq.toNat / 65536 + s.cfg.icmpIdseq.toNat % 65536)
        + (s.cfg.payload.toNat / 65536 + s.cfg.payload.toNat % 65536))
      ∧ (fbWord t 0).toNat = s.dmac.toNat / 2 ^ 16
      ∧ (fbWord t 1).toNat = (s.dmac.toNat % 2 ^ 16) * 2 ^ 16 + s.smac.toNat / 2 ^ 32
      ∧ (fbWord t 2).toNat = s.smac.toNat % 2 ^ 32
      ∧ fbWord t 3 = 0x08000800
      ∧ (fbWord t 4).toNat = 0x45 * 2 ^ 24 + s.cfg.ipTos.toNat * 2 ^ 16 + s.cfg.ipTotlen.toNat
      ∧ (fbWord t 5).toNat = s.idseed.toNat * 2 ^ 16 + s.cfg.ipFlagsFrag.toNat
      ∧ (fbWord t 6).toNat = s.cfg.ipTtl.toNat * 2 ^ 24 + s.cfg.ipProto.toNat * 2 ^ 16
          + (~~~f ^^^ s.cfg.ipcsumStoreXor).toNat
      ∧ fbWord t 7 = s.sip
      ∧ fbWord t 8 = s.dip
      ∧ (fbWord t 9).toNat = 0x0800 * 2 ^ 16 + (~~~f2 ^^^ s.cfg.icmpcsumStoreXor).toNat
      ∧ fbWord t 10 = s.cfg.icmpIdseq
      ∧ fbWord t 11 = s.cfg.payload
      ∧ t.csfold = f2 ∧ t.csres = ~~~f2
      ∧ ∀ k < 12, fbMarked t k = true

/-- R207, R214, R217: in the software-CRC variants BUILD writes the pad word and the check sequence of the stream
bytes below 52, which is also `CRCRES`; in the others `FB[12]`, `FB[13]` and `CRCRES` stay. `FB[14]`, `FB[15]` always
stay. -/
def Obligations.BuildAppendsOrKeepsTheTrailer : Prop :=
  ∀ (v : FrameVariant) (s t : State), s.status.allValid = true → layoutWords v ≤ s.cfg.fbWords →
    exec (.build v) s = .next t →
    (v = .ss ∨ v = .hs →
      fbWord t 12 = s.cfg.padword ∧ fbWord t 13 = t.crcres ∧ fbMarked t 12 = true ∧ fbMarked t 13 = true
      ∧ (∀ k < 4, byteOf t.crcres k
          = byteOf ((unskippedBytes t 52).foldl serialByte 0xFFFFFFFF#32 ^^^ 0xFFFFFFFF#32) (3 - k))
      ∧ ∀ i ≥ 56, frameByte t i = frameByte s i ∧ Memory.marked t.fb i = Memory.marked s.fb i)
    ∧ (v = .sh ∨ v = .hh →
      t.crcres = s.crcres
      ∧ ∀ i ≥ 48, frameByte t i = frameByte s i ∧ Memory.marked t.fb i = Memory.marked s.fb i)

/-- R158, R209, R265: BUILD's self-check cannot fail: from no state does BUILD change `FATAL`. -/
def Obligations.BuildNeverRaisesFatal : Prop :=
  ∀ (v : FrameVariant) (s t : State), exec (.build v) s = .next t → t.status.fatal = s.status.fatal

/-- R218: BUILD is a function of the variant, the addresses, the seed and the parameters, whatever the buffers held:
`FB[0..11]` and the checksum pair are the same in every variant, `FB[12]`, `FB[13]` and `CRCRES` in both software-CRC
variants, and the descriptor and control word for one variant. -/
def Obligations.BuildDependsOnInputsOnly : Prop :=
  ∀ (v v' : FrameVariant) (s s' t t' : State),
    s.status.allValid = true → s'.status.allValid = true →
    s.cfg = s'.cfg → s.dmac = s'.dmac → s.smac = s'.smac → s.sip = s'.sip → s.dip = s'.dip → s.idseed = s'.idseed →
    exec (.build v) s = .next t → exec (.build v') s' = .next t' →
    (∀ k < 12, fbWord t k = fbWord t' k)
    ∧ t.csfold = t'.csfold ∧ t.csres = t'.csres
    ∧ (hwCrc v = false → hwCrc v' = false →
        fbWord t 12 = fbWord t' 12 ∧ fbWord t 13 = fbWord t' 13 ∧ t.crcres = t'.crcres)
    ∧ (v = v' → t.txbase = t'.txbase ∧ t.txcount = t'.txcount ∧ t.txbytes = t'.txbytes ∧ t.txvar = t'.txvar
        ∧ t.txctrl = t'.txctrl)

/-- R104: for all positions that keep the four fields disjoint, the control word holds the count in its field, `GO`,
the two suppression flags, and 0 elsewhere; the count is decoded back from it. The default positions are 10:2, 14, 15
and 16. -/
def Obligations.ControlWordHoldsItsFields : Prop :=
  (standardConfig.ctrlWcShift = 2 ∧ standardConfig.ctrlWcShift + standardConfig.ctrlWcWidth - 1 = 10
    ∧ standardConfig.ctrlGoBit = 14 ∧ standardConfig.ctrlNohwcrcBit = 15 ∧ standardConfig.ctrlNohwmacBit = 16)
  ∧ ∀ (c : Config) (v : FrameVariant) (n : BitVec 5), controlFieldsDisjoint c → n.toNat < 2 ^ c.ctrlWcWidth →
    (controlWord c v n >>> c.ctrlWcShift).toNat % 2 ^ c.ctrlWcWidth = n.toNat
    ∧ (controlWord c v n).getLsbD c.ctrlGoBit = true
    ∧ (controlWord c v n).getLsbD c.ctrlNohwcrcBit = decide (v = .ss ∨ v = .hs)
    ∧ (controlWord c v n).getLsbD c.ctrlNohwmacBit = decide (v = .ss ∨ v = .sh)
    ∧ ∀ i, i ≠ c.ctrlGoBit → i ≠ c.ctrlNohwcrcBit → i ≠ c.ctrlNohwmacBit →
        (i < c.ctrlWcShift ∨ c.ctrlWcShift + c.ctrlWcWidth ≤ i) → (controlWord c v n).getLsbD i = false

/-- R222, R70: SEND of a built frame appends, in order, the two MAC writes (hardware-MAC variants only), one bulk write
of the window and one control write; it clears `BUILT` and changes nothing else. Without a built frame it is
refused. -/
def Obligations.SendHandsOverTheWindow : Prop :=
  ∀ s : State,
    (s.status.built = false → exec .send s = .next { s with status := { s.status with eoper := true } })
    ∧ (s.status.built = true → s.txbase.toNat + s.txcount.toNat ≤ s.cfg.fbWords →
      ∃ ws : List Word, ws.length = s.txcount.toNat
        ∧ (∀ j < s.txcount.toNat, ws[j]? = some (fbWord s (s.txbase.toNat + j)))
        ∧ exec .send s = .next
            { s with
              txlog := s.txlog
                ++ (if s.txvar = .hs ∨ s.txvar = .hh then [.writeMacDst s.dmac, .writeMacSrc s.smac] else [])
                ++ [.writeBulk s.txcount.toNat ws, .writeTxCmd s.txctrl]
              status := { s.status with built := false } })

/-- R202, R215, R222: SEND right after BUILD hands over the variant's documented number of words, starting with the
first word of the layout (the EtherType word in the hardware-MAC variants), and a second SEND is refused. -/
def Obligations.BuildThenSendHandsOverOneFrame : Prop :=
  ∀ (v : FrameVariant) (s : State), s.status.allValid = true → buffersSized s.cfg → windowsFit s.cfg →
    ∃ t u ws, exec (.build v) s = .next t ∧ exec .send t = .next u
      ∧ u.txlog = s.txlog
          ++ (if v = .hs ∨ v = .hh then [.writeMacDst s.dmac, .writeMacSrc s.smac] else [])
          ++ [.writeBulk ws.length ws, .writeTxCmd (controlWord s.cfg v (wordCount s.cfg v))]
      ∧ ws.length = (match v with | .ss => 14 | .sh => 12 | .hs => 11 | .hh => 9)
      ∧ (∀ j < ws.length, ws[j]? = some (fbWord t ((if v = .hs ∨ v = .hh then 3 else 0) + j)))
      ∧ exec .send u = .next { u with status := { u.status with eoper := true } }

/-! ## Control commands, refusals -/

/-- R250: NOP changes no state, also while `FATAL` is set; its word is 0x00000000, and any other word with opcode 0 is
illegal. -/
def Obligations.NopChangesNothing : Prop :=
  (∀ s : State, exec .nop s = .next s)
  ∧ (∀ (s : State) (rest : List Input), s.pending = .hostWrite 0x00 0x00000000 :: rest →
      step s = .next { s with pending := rest })
  ∧ decode 0x00000000 = .ok .nop
  ∧ ∀ w : Word, w.extractLsb' 28 4 = 0 → w ≠ 0 → ∃ e, decode w = .error e

/-- R251: CLRERR clears `PERR`, `ILL`, `EOPER` and `ERRINFO`, and nothing else; its word is exactly 0x10000000, and
while `FATAL` is set it does not run. -/
def Obligations.ClrerrClearsTheErrorFlags : Prop :=
  (∀ s : State, ∃ e : ErrInfo, e.toWord = 0
    ∧ exec .clrerr s = .next
        { s with status := { s.status with perr := false, ill := false, eoper := false }, errinfo := e })
  ∧ (∀ (s : State) (rest : List Input), s.status.fatal = true → s.pending = .hostWrite 0x00 0x10000000 :: rest →
      step s = .next { s with pending := rest })
  ∧ ∀ w : Word, decode w = .ok .clrerr ↔ w = 0x10000000

/-- R264: an operand or precondition refusal sets `EOPER` and changes nothing else; no command sets `EOPER` for another
reason than those listed; and `EOPER` stays set until a CLRERR that runs, or reset. That the bounds follow the buffer
size, and that 63 and 64 are refused when processed bytes are counted, is the model's choice (notes/assumptions/6.md,
5.md). -/
def Obligations.EoperHasExactlyItsCauses : Prop :=
  (∀ (i : Instr) (s : State),
    (operandRefused s i = true → exec i s = .next { s with status := { s.status with eoper := true } })
    ∧ (operandRefused s i = false → ∀ t, exec i s = .next t → t.status.eoper = true → s.status.eoper = true))
  ∧ ∀ s t : State, step s = .next t → s.status.eoper = true → t.status.eoper = false →
      s.pending.head? = some .reset
        ∨ (s.pending.head? = some (.hostWrite 0x00 0x10000000) ∧ s.status.fatal = false)

/-- R263: a word that is no command sets `ILL` and changes nothing else, and `ILL` stays set until a CLRERR that runs,
or reset. -/
def Obligations.IllegalWordSetsIllUntilCleared : Prop :=
  (∀ (s : State) (w : Word) (rest : List Input), s.pending = .hostWrite 0x00 w :: rest → s.status.fatal = false →
    (∃ e, decode w = .error e) →
      step s = .next { s with pending := rest, status := { s.status with ill := true } })
  ∧ ∀ s t : State, step s = .next t → s.status.ill = true → t.status.ill = false →
      s.pending.head? = some .reset
        ∨ (s.pending.head? = some (.hostWrite 0x00 0x10000000) ∧ s.status.fatal = false)

/-! ## The whole machine -/

/-- R224 e, R38: only a SEND of a built frame appends to `TXLOG`, and only reset empties it. -/
def Obligations.OnlySendAppendsToTheLog : Prop :=
  ∀ s t : State, step s = .next t → t.txlog ≠ s.txlog →
    (s.pending.head? = some .reset ∧ t.txlog = [])
      ∨ (s.pending.head? = some (.hostWrite 0x00 0x70000000) ∧ s.status.fatal = false ∧ s.status.built = true
          ∧ ∃ es, es ≠ [] ∧ t.txlog = s.txlog ++ es)

/-- R21: the address registers are written only by a successful PMAC or PIP into them (or by reset). -/
def Obligations.OnlyParsesWriteAddressRegisters : Prop :=
  ∀ s t : State, step s = .next t → s.pending.head? ≠ some .reset →
    (t.dmac ≠ s.dmac →
      s.pending.head? = some (.hostWrite 0x00 0x20000000) ∧ t.status.dmacv = true ∧ t.status.perr = false)
    ∧ (t.smac ≠ s.smac →
      s.pending.head? = some (.hostWrite 0x00 0x20000001) ∧ t.status.smacv = true ∧ t.status.perr = false)
    ∧ (t.sip ≠ s.sip →
      s.pending.head? = some (.hostWrite 0x00 0x30000002) ∧ t.status.sipv = true ∧ t.status.perr = false)
    ∧ (t.dip ≠ s.dip →
      s.pending.head? = some (.hostWrite 0x00 0x30000003) ∧ t.status.dipv = true ∧ t.status.perr = false)

/-- R266: while `FATAL` is set a write of `CMD` runs no command and sets no flag, every other host action works as it
would without it, and only reset clears it. -/
def Obligations.FatalBlocksCommandsUntilReset : Prop :=
  ∀ s : State, s.status.fatal = true →
    (∀ w rest, s.pending = .hostWrite 0x00 w :: rest → step s = .next { s with pending := rest })
    ∧ (∀ inp rest, s.pending = inp :: rest → (∀ w, inp ≠ .hostWrite 0x00 w) → (∀ a, inp ≠ .hostRead a) →
        inp ≠ .reset →
        ∃ t, step { s with status := { s.status with fatal := false } } = .next t
          ∧ step s = .next { t with status := { t.status with fatal := true } })
    ∧ (∀ a rest, s.pending = .hostRead a :: rest →
        step s = .next { s with pending := rest, replies := s.replies ++ [{ addr := a, value := hostReadValue a s }] })
    ∧ (∀ t, step s = .next t → (t.status.fatal = false ↔ s.pending.head? = some .reset))

/-- R69: each step takes exactly the first of the pending actions (the model's own queue, notes/assumptions/1.md), and
the parameters never change (notes/assumptions/2.md). Both are the model's choices. -/
def Obligations.StepTakesActionsInOrder : Prop :=
  ∀ s t : State, step s = .next t → t.pending = s.pending.tail ∧ t.cfg = s.cfg

/-! ## Reset -/

/-- R39: the reset values; no word of `FB` and no character of `STR` is marked. -/
def Obligations.ResetHoldsTheStatedValues : Prop :=
  State.reset.dmac = 0 ∧ State.reset.smac = 0 ∧ State.reset.sip = 0 ∧ State.reset.dip = 0
    ∧ (∀ k, fbMarked State.reset k = false) ∧ (∀ k, Memory.marked State.reset.str k = false)
    ∧ State.reset.strlen = 0 ∧ State.reset.idseed = 0
    ∧ State.reset.csfold = 0 ∧ State.reset.csres = 0 ∧ State.reset.crcres = 0
    ∧ State.reset.txbase = 0 ∧ State.reset.txcount = 0 ∧ State.reset.txbytes = 0
    ∧ State.reset.txvar.code = 0 ∧ State.reset.txctrl = 0
    ∧ State.reset.status.toWord = 0 ∧ State.reset.errinfo.toWord = 0 ∧ State.reset.txlog = []

/-- R290, R291: the external reset puts every piece of CORE's state at its reset value, emits nothing and leaves what
belongs to the outside. (That the model's queue, replies and parameters stay is the model's choice,
notes/assumptions/1.md, 2.md and 4.md.) -/
def Obligations.ExternalResetRestoresTheResetState : Prop :=
  ∀ (s : State) (rest : List Input), s.pending = .reset :: rest →
    ∃ e, step s = .next
      { State.reset with cfg := s.cfg, epoch := e, pending := rest, replies := s.replies }

/-! ## Invariants -/

/-- R37, R24 to R26: every step keeps the byte stores canonical, inside their buffers, marked by whole words, and the
text inside the string buffer. -/
def Obligations.StepKeepsBuffersCanonical : Prop :=
  ∀ s t : State, buffersCanonical s → step s = .next t → buffersCanonical t

/-- R202, R214 to R216, R224 d: every step keeps what `BUILT` promises: the descriptor and control word of the built
variant, and a check sequence that is still that of the buffer. -/
def Obligations.StepKeepsFrameDescribed : Prop :=
  ∀ s t : State, frameDescribed s → step s = .next t → frameDescribed t

/-- R265: `FATAL` is unreachable: no step sets it, from any state. -/
def Obligations.StepKeepsFatalClear : Prop :=
  ∀ s t : State, s.status.fatal = false → step s = .next t → t.status.fatal = false

/-- R224 a, b, c: every step keeps `TXLOG` a sequence of whole hand-overs whose counts and flags agree. -/
def Obligations.StepKeepsLogOfHandOvers : Prop :=
  ∀ s t : State, controlFieldsDisjoint s.cfg → frameDescribed s → logOfHandOvers s.cfg s.txlog = true →
    step s = .next t → logOfHandOvers t.cfg t.txlog = true

/-- R306, R260: under parameters the layout rules hold for, and a described frame, every step answers a next state: no
action of the host stops the machine. -/
def Obligations.StepAlwaysAnswers : Prop :=
  ∀ s : State, buffersSized s.cfg → windowsFit s.cfg → frameDescribed s → ∃ t, step s = .next t

/-- The reset state has the default parameters, under which every rule holds, and meets every invariant above. -/
def Obligations.ResetMeetsTheInvariants : Prop :=
  configOk State.reset.cfg ∧ buffersCanonical State.reset ∧ frameDescribed State.reset
    ∧ State.reset.status.fatal = false ∧ logOfHandOvers State.reset.cfg State.reset.txlog = true

/-- R14, R224, R265: every finite list of actions from reset runs to its end, leaves `FATAL` clear and `TXLOG` a
sequence of whole hand-overs. -/
def Obligations.EveryRunEndsInWholeHandOvers : Prop :=
  ∀ inputs : List Input, ∃ t, performAll inputs State.reset = .next t
    ∧ t.status.fatal = false ∧ logOfHandOvers t.cfg t.txlog = true
end

