-- ==== Sys2Proof/Laws/State.lean ====
section
/-! SUPPORT. One lemma per field per update of State, each true by unfolding the update once. -/

namespace Sys2Proof.Machine

/-! ## writeFbWord -/

@[simp] theorem writeFbWord_dmac (k : Nat) (v : Word) (s : State) :
    (writeFbWord k v s).dmac = s.dmac := rfl
@[simp] theorem writeFbWord_smac (k : Nat) (v : Word) (s : State) :
    (writeFbWord k v s).smac = s.smac := rfl
@[simp] theorem writeFbWord_sip (k : Nat) (v : Word) (s : State) :
    (writeFbWord k v s).sip = s.sip := rfl
@[simp] theorem writeFbWord_dip (k : Nat) (v : Word) (s : State) :
    (writeFbWord k v s).dip = s.dip := rfl
@[simp] theorem writeFbWord_fb (k : Nat) (v : Word) (s : State) :
    (writeFbWord k v s).fb = Memory.insertWord s.fb k v := rfl
@[simp] theorem writeFbWord_str (k : Nat) (v : Word) (s : State) :
    (writeFbWord k v s).str = s.str := rfl
@[simp] theorem writeFbWord_strlen (k : Nat) (v : Word) (s : State) :
    (writeFbWord k v s).strlen = s.strlen := rfl
@[simp] theorem writeFbWord_idseed (k : Nat) (v : Word) (s : State) :
    (writeFbWord k v s).idseed = s.idseed := rfl
@[simp] theorem writeFbWord_csfold (k : Nat) (v : Word) (s : State) :
    (writeFbWord k v s).csfold = s.csfold := rfl
@[simp] theorem writeFbWord_csres (k : Nat) (v : Word) (s : State) :
    (writeFbWord k v s).csres = s.csres := rfl
@[simp] theorem writeFbWord_crcres (k : Nat) (v : Word) (s : State) :
    (writeFbWord k v s).crcres = s.crcres := rfl
@[simp] theorem writeFbWord_txbase (k : Nat) (v : Word) (s : State) :
    (writeFbWord k v s).txbase = s.txbase := rfl
@[simp] theorem writeFbWord_txcount (k : Nat) (v : Word) (s : State) :
    (writeFbWord k v s).txcount = s.txcount := rfl
@[simp] theorem writeFbWord_txbytes (k : Nat) (v : Word) (s : State) :
    (writeFbWord k v s).txbytes = s.txbytes := rfl
@[simp] theorem writeFbWord_txvar (k : Nat) (v : Word) (s : State) :
    (writeFbWord k v s).txvar = s.txvar := rfl
@[simp] theorem writeFbWord_txctrl (k : Nat) (v : Word) (s : State) :
    (writeFbWord k v s).txctrl = s.txctrl := rfl
@[simp] theorem writeFbWord_status (k : Nat) (v : Word) (s : State) :
    (writeFbWord k v s).status = s.status := rfl
@[simp] theorem writeFbWord_errinfo (k : Nat) (v : Word) (s : State) :
    (writeFbWord k v s).errinfo = s.errinfo := rfl
@[simp] theorem writeFbWord_txlog (k : Nat) (v : Word) (s : State) :
    (writeFbWord k v s).txlog = s.txlog := rfl
@[simp] theorem writeFbWord_cfg (k : Nat) (v : Word) (s : State) :
    (writeFbWord k v s).cfg = s.cfg := rfl
@[simp] theorem writeFbWord_epoch (k : Nat) (v : Word) (s : State) :
    (writeFbWord k v s).epoch = s.epoch := rfl
@[simp] theorem writeFbWord_pending (k : Nat) (v : Word) (s : State) :
    (writeFbWord k v s).pending = s.pending := rfl
@[simp] theorem writeFbWord_replies (k : Nat) (v : Word) (s : State) :
    (writeFbWord k v s).replies = s.replies := rfl

/-! ## writeStr -/

@[simp] theorem writeStr_dmac (k : Nat) (c : Byte) (s : State) :
    (writeStr k c s).dmac = s.dmac := rfl
@[simp] theorem writeStr_smac (k : Nat) (c : Byte) (s : State) :
    (writeStr k c s).smac = s.smac := rfl
@[simp] theorem writeStr_sip (k : Nat) (c : Byte) (s : State) :
    (writeStr k c s).sip = s.sip := rfl
@[simp] theorem writeStr_dip (k : Nat) (c : Byte) (s : State) :
    (writeStr k c s).dip = s.dip := rfl
@[simp] theorem writeStr_fb (k : Nat) (c : Byte) (s : State) :
    (writeStr k c s).fb = s.fb := rfl
@[simp] theorem writeStr_str (k : Nat) (c : Byte) (s : State) :
    (writeStr k c s).str = Memory.insert s.str k c := rfl
@[simp] theorem writeStr_strlen (k : Nat) (c : Byte) (s : State) :
    (writeStr k c s).strlen = s.strlen := rfl
@[simp] theorem writeStr_idseed (k : Nat) (c : Byte) (s : State) :
    (writeStr k c s).idseed = s.idseed := rfl
@[simp] theorem writeStr_csfold (k : Nat) (c : Byte) (s : State) :
    (writeStr k c s).csfold = s.csfold := rfl
@[simp] theorem writeStr_csres (k : Nat) (c : Byte) (s : State) :
    (writeStr k c s).csres = s.csres := rfl
@[simp] theorem writeStr_crcres (k : Nat) (c : Byte) (s : State) :
    (writeStr k c s).crcres = s.crcres := rfl
@[simp] theorem writeStr_txbase (k : Nat) (c : Byte) (s : State) :
    (writeStr k c s).txbase = s.txbase := rfl
@[simp] theorem writeStr_txcount (k : Nat) (c : Byte) (s : State) :
    (writeStr k c s).txcount = s.txcount := rfl
@[simp] theorem writeStr_txbytes (k : Nat) (c : Byte) (s : State) :
    (writeStr k c s).txbytes = s.txbytes := rfl
@[simp] theorem writeStr_txvar (k : Nat) (c : Byte) (s : State) :
    (writeStr k c s).txvar = s.txvar := rfl
@[simp] theorem writeStr_txctrl (k : Nat) (c : Byte) (s : State) :
    (writeStr k c s).txctrl = s.txctrl := rfl
@[simp] theorem writeStr_status (k : Nat) (c : Byte) (s : State) :
    (writeStr k c s).status = s.status := rfl
@[simp] theorem writeStr_errinfo (k : Nat) (c : Byte) (s : State) :
    (writeStr k c s).errinfo = s.errinfo := rfl
@[simp] theorem writeStr_txlog (k : Nat) (c : Byte) (s : State) :
    (writeStr k c s).txlog = s.txlog := rfl
@[simp] theorem writeStr_cfg (k : Nat) (c : Byte) (s : State) :
    (writeStr k c s).cfg = s.cfg := rfl
@[simp] theorem writeStr_epoch (k : Nat) (c : Byte) (s : State) :
    (writeStr k c s).epoch = s.epoch := rfl
@[simp] theorem writeStr_pending (k : Nat) (c : Byte) (s : State) :
    (writeStr k c s).pending = s.pending := rfl
@[simp] theorem writeStr_replies (k : Nat) (c : Byte) (s : State) :
    (writeStr k c s).replies = s.replies := rfl

/-! ## emit -/

@[simp] theorem emit_dmac (es : List TxEvent) (s : State) :
    (emit es s).dmac = s.dmac := rfl
@[simp] theorem emit_smac (es : List TxEvent) (s : State) :
    (emit es s).smac = s.smac := rfl
@[simp] theorem emit_sip (es : List TxEvent) (s : State) :
    (emit es s).sip = s.sip := rfl
@[simp] theorem emit_dip (es : List TxEvent) (s : State) :
    (emit es s).dip = s.dip := rfl
@[simp] theorem emit_fb (es : List TxEvent) (s : State) :
    (emit es s).fb = s.fb := rfl
@[simp] theorem emit_str (es : List TxEvent) (s : State) :
    (emit es s).str = s.str := rfl
@[simp] theorem emit_strlen (es : List TxEvent) (s : State) :
    (emit es s).strlen = s.strlen := rfl
@[simp] theorem emit_idseed (es : List TxEvent) (s : State) :
    (emit es s).idseed = s.idseed := rfl
@[simp] theorem emit_csfold (es : List TxEvent) (s : State) :
    (emit es s).csfold = s.csfold := rfl
@[simp] theorem emit_csres (es : List TxEvent) (s : State) :
    (emit es s).csres = s.csres := rfl
@[simp] theorem emit_crcres (es : List TxEvent) (s : State) :
    (emit es s).crcres = s.crcres := rfl
@[simp] theorem emit_txbase (es : List TxEvent) (s : State) :
    (emit es s).txbase = s.txbase := rfl
@[simp] theorem emit_txcount (es : List TxEvent) (s : State) :
    (emit es s).txcount = s.txcount := rfl
@[simp] theorem emit_txbytes (es : List TxEvent) (s : State) :
    (emit es s).txbytes = s.txbytes := rfl
@[simp] theorem emit_txvar (es : List TxEvent) (s : State) :
    (emit es s).txvar = s.txvar := rfl
@[simp] theorem emit_txctrl (es : List TxEvent) (s : State) :
    (emit es s).txctrl = s.txctrl := rfl
@[simp] theorem emit_status (es : List TxEvent) (s : State) :
    (emit es s).status = s.status := rfl
@[simp] theorem emit_errinfo (es : List TxEvent) (s : State) :
    (emit es s).errinfo = s.errinfo := rfl
@[simp] theorem emit_txlog (es : List TxEvent) (s : State) :
    (emit es s).txlog = s.txlog ++ es := rfl
@[simp] theorem emit_cfg (es : List TxEvent) (s : State) :
    (emit es s).cfg = s.cfg := rfl
@[simp] theorem emit_epoch (es : List TxEvent) (s : State) :
    (emit es s).epoch = s.epoch := rfl
@[simp] theorem emit_pending (es : List TxEvent) (s : State) :
    (emit es s).pending = s.pending := rfl
@[simp] theorem emit_replies (es : List TxEvent) (s : State) :
    (emit es s).replies = s.replies := rfl

/-! ## clearErrors -/

@[simp] theorem clearErrors_dmac (s : State) :
    (clearErrors s).dmac = s.dmac := rfl
@[simp] theorem clearErrors_smac (s : State) :
    (clearErrors s).smac = s.smac := rfl
@[simp] theorem clearErrors_sip (s : State) :
    (clearErrors s).sip = s.sip := rfl
@[simp] theorem clearErrors_dip (s : State) :
    (clearErrors s).dip = s.dip := rfl
@[simp] theorem clearErrors_fb (s : State) :
    (clearErrors s).fb = s.fb := rfl
@[simp] theorem clearErrors_str (s : State) :
    (clearErrors s).str = s.str := rfl
@[simp] theorem clearErrors_strlen (s : State) :
    (clearErrors s).strlen = s.strlen := rfl
@[simp] theorem clearErrors_idseed (s : State) :
    (clearErrors s).idseed = s.idseed := rfl
@[simp] theorem clearErrors_csfold (s : State) :
    (clearErrors s).csfold = s.csfold := rfl
@[simp] theorem clearErrors_csres (s : State) :
    (clearErrors s).csres = s.csres := rfl
@[simp] theorem clearErrors_crcres (s : State) :
    (clearErrors s).crcres = s.crcres := rfl
@[simp] theorem clearErrors_txbase (s : State) :
    (clearErrors s).txbase = s.txbase := rfl
@[simp] theorem clearErrors_txcount (s : State) :
    (clearErrors s).txcount = s.txcount := rfl
@[simp] theorem clearErrors_txbytes (s : State) :
    (clearErrors s).txbytes = s.txbytes := rfl
@[simp] theorem clearErrors_txvar (s : State) :
    (clearErrors s).txvar = s.txvar := rfl
@[simp] theorem clearErrors_txctrl (s : State) :
    (clearErrors s).txctrl = s.txctrl := rfl
@[simp] theorem clearErrors_status (s : State) :
    (clearErrors s).status = { s.status with perr := false, ill := false, eoper := false } := rfl
@[simp] theorem clearErrors_errinfo (s : State) :
    (clearErrors s).errinfo = ErrInfo.clear := rfl
@[simp] theorem clearErrors_txlog (s : State) :
    (clearErrors s).txlog = s.txlog := rfl
@[simp] theorem clearErrors_cfg (s : State) :
    (clearErrors s).cfg = s.cfg := rfl
@[simp] theorem clearErrors_epoch (s : State) :
    (clearErrors s).epoch = s.epoch := rfl
@[simp] theorem clearErrors_pending (s : State) :
    (clearErrors s).pending = s.pending := rfl
@[simp] theorem clearErrors_replies (s : State) :
    (clearErrors s).replies = s.replies := rfl

/-! ## parseSucceeded -/

@[simp] theorem parseSucceeded_dmac (r : AddrReg) (s : State) :
    (parseSucceeded r s).dmac = s.dmac := rfl
@[simp] theorem parseSucceeded_smac (r : AddrReg) (s : State) :
    (parseSucceeded r s).smac = s.smac := rfl
@[simp] theorem parseSucceeded_sip (r : AddrReg) (s : State) :
    (parseSucceeded r s).sip = s.sip := rfl
@[simp] theorem parseSucceeded_dip (r : AddrReg) (s : State) :
    (parseSucceeded r s).dip = s.dip := rfl
@[simp] theorem parseSucceeded_fb (r : AddrReg) (s : State) :
    (parseSucceeded r s).fb = s.fb := rfl
@[simp] theorem parseSucceeded_str (r : AddrReg) (s : State) :
    (parseSucceeded r s).str = s.str := rfl
@[simp] theorem parseSucceeded_strlen (r : AddrReg) (s : State) :
    (parseSucceeded r s).strlen = s.strlen := rfl
@[simp] theorem parseSucceeded_idseed (r : AddrReg) (s : State) :
    (parseSucceeded r s).idseed = s.idseed := rfl
@[simp] theorem parseSucceeded_csfold (r : AddrReg) (s : State) :
    (parseSucceeded r s).csfold = s.csfold := rfl
@[simp] theorem parseSucceeded_csres (r : AddrReg) (s : State) :
    (parseSucceeded r s).csres = s.csres := rfl
@[simp] theorem parseSucceeded_crcres (r : AddrReg) (s : State) :
    (parseSucceeded r s).crcres = s.crcres := rfl
@[simp] theorem parseSucceeded_txbase (r : AddrReg) (s : State) :
    (parseSucceeded r s).txbase = s.txbase := rfl
@[simp] theorem parseSucceeded_txcount (r : AddrReg) (s : State) :
    (parseSucceeded r s).txcount = s.txcount := rfl
@[simp] theorem parseSucceeded_txbytes (r : AddrReg) (s : State) :
    (parseSucceeded r s).txbytes = s.txbytes := rfl
@[simp] theorem parseSucceeded_txvar (r : AddrReg) (s : State) :
    (parseSucceeded r s).txvar = s.txvar := rfl
@[simp] theorem parseSucceeded_txctrl (r : AddrReg) (s : State) :
    (parseSucceeded r s).txctrl = s.txctrl := rfl
@[simp] theorem parseSucceeded_status (r : AddrReg) (s : State) :
    (parseSucceeded r s).status = { s.status.setValid r true with perr := false } := rfl
@[simp] theorem parseSucceeded_errinfo (r : AddrReg) (s : State) :
    (parseSucceeded r s).errinfo = s.errinfo := rfl
@[simp] theorem parseSucceeded_txlog (r : AddrReg) (s : State) :
    (parseSucceeded r s).txlog = s.txlog := rfl
@[simp] theorem parseSucceeded_cfg (r : AddrReg) (s : State) :
    (parseSucceeded r s).cfg = s.cfg := rfl
@[simp] theorem parseSucceeded_epoch (r : AddrReg) (s : State) :
    (parseSucceeded r s).epoch = s.epoch := rfl
@[simp] theorem parseSucceeded_pending (r : AddrReg) (s : State) :
    (parseSucceeded r s).pending = s.pending := rfl
@[simp] theorem parseSucceeded_replies (r : AddrReg) (s : State) :
    (parseSucceeded r s).replies = s.replies := rfl

/-! ## takeAbnormal_illegal -/

@[simp] theorem takeAbnormal_illegal_dmac (s : State) :
    (takeAbnormal .illegal s).dmac = s.dmac := rfl
@[simp] theorem takeAbnormal_illegal_smac (s : State) :
    (takeAbnormal .illegal s).smac = s.smac := rfl
@[simp] theorem takeAbnormal_illegal_sip (s : State) :
    (takeAbnormal .illegal s).sip = s.sip := rfl
@[simp] theorem takeAbnormal_illegal_dip (s : State) :
    (takeAbnormal .illegal s).dip = s.dip := rfl
@[simp] theorem takeAbnormal_illegal_fb (s : State) :
    (takeAbnormal .illegal s).fb = s.fb := rfl
@[simp] theorem takeAbnormal_illegal_str (s : State) :
    (takeAbnormal .illegal s).str = s.str := rfl
@[simp] theorem takeAbnormal_illegal_strlen (s : State) :
    (takeAbnormal .illegal s).strlen = s.strlen := rfl
@[simp] theorem takeAbnormal_illegal_idseed (s : State) :
    (takeAbnormal .illegal s).idseed = s.idseed := rfl
@[simp] theorem takeAbnormal_illegal_csfold (s : State) :
    (takeAbnormal .illegal s).csfold = s.csfold := rfl
@[simp] theorem takeAbnormal_illegal_csres (s : State) :
    (takeAbnormal .illegal s).csres = s.csres := rfl
@[simp] theorem takeAbnormal_illegal_crcres (s : State) :
    (takeAbnormal .illegal s).crcres = s.crcres := rfl
@[simp] theorem takeAbnormal_illegal_txbase (s : State) :
    (takeAbnormal .illegal s).txbase = s.txbase := rfl
@[simp] theorem takeAbnormal_illegal_txcount (s : State) :
    (takeAbnormal .illegal s).txcount = s.txcount := rfl
@[simp] theorem takeAbnormal_illegal_txbytes (s : State) :
    (takeAbnormal .illegal s).txbytes = s.txbytes := rfl
@[simp] theorem takeAbnormal_illegal_txvar (s : State) :
    (takeAbnormal .illegal s).txvar = s.txvar := rfl
@[simp] theorem takeAbnormal_illegal_txctrl (s : State) :
    (takeAbnormal .illegal s).txctrl = s.txctrl := rfl
@[simp] theorem takeAbnormal_illegal_status (s : State) :
    (takeAbnormal .illegal s).status = { s.status with ill := true } := rfl
@[simp] theorem takeAbnormal_illegal_errinfo (s : State) :
    (takeAbnormal .illegal s).errinfo = s.errinfo := rfl
@[simp] theorem takeAbnormal_illegal_txlog (s : State) :
    (takeAbnormal .illegal s).txlog = s.txlog := rfl
@[simp] theorem takeAbnormal_illegal_cfg (s : State) :
    (takeAbnormal .illegal s).cfg = s.cfg := rfl
@[simp] theorem takeAbnormal_illegal_epoch (s : State) :
    (takeAbnormal .illegal s).epoch = s.epoch := rfl
@[simp] theorem takeAbnormal_illegal_pending (s : State) :
    (takeAbnormal .illegal s).pending = s.pending := rfl
@[simp] theorem takeAbnormal_illegal_replies (s : State) :
    (takeAbnormal .illegal s).replies = s.replies := rfl

/-! ## takeAbnormal_operand -/

@[simp] theorem takeAbnormal_operand_dmac (s : State) :
    (takeAbnormal .operand s).dmac = s.dmac := rfl
@[simp] theorem takeAbnormal_operand_smac (s : State) :
    (takeAbnormal .operand s).smac = s.smac := rfl
@[simp] theorem takeAbnormal_operand_sip (s : State) :
    (takeAbnormal .operand s).sip = s.sip := rfl
@[simp] theorem takeAbnormal_operand_dip (s : State) :
    (takeAbnormal .operand s).dip = s.dip := rfl
@[simp] theorem takeAbnormal_operand_fb (s : State) :
    (takeAbnormal .operand s).fb = s.fb := rfl
@[simp] theorem takeAbnormal_operand_str (s : State) :
    (takeAbnormal .operand s).str = s.str := rfl
@[simp] theorem takeAbnormal_operand_strlen (s : State) :
    (takeAbnormal .operand s).strlen = s.strlen := rfl
@[simp] theorem takeAbnormal_operand_idseed (s : State) :
    (takeAbnormal .operand s).idseed = s.idseed := rfl
@[simp] theorem takeAbnormal_operand_csfold (s : State) :
    (takeAbnormal .operand s).csfold = s.csfold := rfl
@[simp] theorem takeAbnormal_operand_csres (s : State) :
    (takeAbnormal .operand s).csres = s.csres := rfl
@[simp] theorem takeAbnormal_operand_crcres (s : State) :
    (takeAbnormal .operand s).crcres = s.crcres := rfl
@[simp] theorem takeAbnormal_operand_txbase (s : State) :
    (takeAbnormal .operand s).txbase = s.txbase := rfl
@[simp] theorem takeAbnormal_operand_txcount (s : State) :
    (takeAbnormal .operand s).txcount = s.txcount := rfl
@[simp] theorem takeAbnormal_operand_txbytes (s : State) :
    (takeAbnormal .operand s).txbytes = s.txbytes := rfl
@[simp] theorem takeAbnormal_operand_txvar (s : State) :
    (takeAbnormal .operand s).txvar = s.txvar := rfl
@[simp] theorem takeAbnormal_operand_txctrl (s : State) :
    (takeAbnormal .operand s).txctrl = s.txctrl := rfl
@[simp] theorem takeAbnormal_operand_status (s : State) :
    (takeAbnormal .operand s).status = { s.status with eoper := true } := rfl
@[simp] theorem takeAbnormal_operand_errinfo (s : State) :
    (takeAbnormal .operand s).errinfo = s.errinfo := rfl
@[simp] theorem takeAbnormal_operand_txlog (s : State) :
    (takeAbnormal .operand s).txlog = s.txlog := rfl
@[simp] theorem takeAbnormal_operand_cfg (s : State) :
    (takeAbnormal .operand s).cfg = s.cfg := rfl
@[simp] theorem takeAbnormal_operand_epoch (s : State) :
    (takeAbnormal .operand s).epoch = s.epoch := rfl
@[simp] theorem takeAbnormal_operand_pending (s : State) :
    (takeAbnormal .operand s).pending = s.pending := rfl
@[simp] theorem takeAbnormal_operand_replies (s : State) :
    (takeAbnormal .operand s).replies = s.replies := rfl

/-! ## takeAbnormal_selfCheck -/

@[simp] theorem takeAbnormal_selfCheck_dmac (s : State) :
    (takeAbnormal .selfCheck s).dmac = s.dmac := rfl
@[simp] theorem takeAbnormal_selfCheck_smac (s : State) :
    (takeAbnormal .selfCheck s).smac = s.smac := rfl
@[simp] theorem takeAbnormal_selfCheck_sip (s : State) :
    (takeAbnormal .selfCheck s).sip = s.sip := rfl
@[simp] theorem takeAbnormal_selfCheck_dip (s : State) :
    (takeAbnormal .selfCheck s).dip = s.dip := rfl
@[simp] theorem takeAbnormal_selfCheck_fb (s : State) :
    (takeAbnormal .selfCheck s).fb = s.fb := rfl
@[simp] theorem takeAbnormal_selfCheck_str (s : State) :
    (takeAbnormal .selfCheck s).str = s.str := rfl
@[simp] theorem takeAbnormal_selfCheck_strlen (s : State) :
    (takeAbnormal .selfCheck s).strlen = s.strlen := rfl
@[simp] theorem takeAbnormal_selfCheck_idseed (s : State) :
    (takeAbnormal .selfCheck s).idseed = s.idseed := rfl
@[simp] theorem takeAbnormal_selfCheck_csfold (s : State) :
    (takeAbnormal .selfCheck s).csfold = s.csfold := rfl
@[simp] theorem takeAbnormal_selfCheck_csres (s : State) :
    (takeAbnormal .selfCheck s).csres = s.csres := rfl
@[simp] theorem takeAbnormal_selfCheck_crcres (s : State) :
    (takeAbnormal .selfCheck s).crcres = s.crcres := rfl
@[simp] theorem takeAbnormal_selfCheck_txbase (s : State) :
    (takeAbnormal .selfCheck s).txbase = s.txbase := rfl
@[simp] theorem takeAbnormal_selfCheck_txcount (s : State) :
    (takeAbnormal .selfCheck s).txcount = s.txcount := rfl
@[simp] theorem takeAbnormal_selfCheck_txbytes (s : State) :
    (takeAbnormal .selfCheck s).txbytes = s.txbytes := rfl
@[simp] theorem takeAbnormal_selfCheck_txvar (s : State) :
    (takeAbnormal .selfCheck s).txvar = s.txvar := rfl
@[simp] theorem takeAbnormal_selfCheck_txctrl (s : State) :
    (takeAbnormal .selfCheck s).txctrl = s.txctrl := rfl
@[simp] theorem takeAbnormal_selfCheck_status (s : State) :
    (takeAbnormal .selfCheck s).status = { s.status with fatal := true } := rfl
@[simp] theorem takeAbnormal_selfCheck_errinfo (s : State) :
    (takeAbnormal .selfCheck s).errinfo = s.errinfo := rfl
@[simp] theorem takeAbnormal_selfCheck_txlog (s : State) :
    (takeAbnormal .selfCheck s).txlog = s.txlog := rfl
@[simp] theorem takeAbnormal_selfCheck_cfg (s : State) :
    (takeAbnormal .selfCheck s).cfg = s.cfg := rfl
@[simp] theorem takeAbnormal_selfCheck_epoch (s : State) :
    (takeAbnormal .selfCheck s).epoch = s.epoch := rfl
@[simp] theorem takeAbnormal_selfCheck_pending (s : State) :
    (takeAbnormal .selfCheck s).pending = s.pending := rfl
@[simp] theorem takeAbnormal_selfCheck_replies (s : State) :
    (takeAbnormal .selfCheck s).replies = s.replies := rfl

/-! ## takeAbnormal_parseError -/

@[simp] theorem takeAbnormal_parseError_dmac (r : AddrReg) (f : Nat) (c : ParseCause) (s : State) :
    (takeAbnormal (.parseError r f c) s).dmac = s.dmac := rfl
@[simp] theorem takeAbnormal_parseError_smac (r : AddrReg) (f : Nat) (c : ParseCause) (s : State) :
    (takeAbnormal (.parseError r f c) s).smac = s.smac := rfl
@[simp] theorem takeAbnormal_parseError_sip (r : AddrReg) (f : Nat) (c : ParseCause) (s : State) :
    (takeAbnormal (.parseError r f c) s).sip = s.sip := rfl
@[simp] theorem takeAbnormal_parseError_dip (r : AddrReg) (f : Nat) (c : ParseCause) (s : State) :
    (takeAbnormal (.parseError r f c) s).dip = s.dip := rfl
@[simp] theorem takeAbnormal_parseError_fb (r : AddrReg) (f : Nat) (c : ParseCause) (s : State) :
    (takeAbnormal (.parseError r f c) s).fb = s.fb := rfl
@[simp] theorem takeAbnormal_parseError_str (r : AddrReg) (f : Nat) (c : ParseCause) (s : State) :
    (takeAbnormal (.parseError r f c) s).str = s.str := rfl
@[simp] theorem takeAbnormal_parseError_strlen (r : AddrReg) (f : Nat) (c : ParseCause) (s : State) :
    (takeAbnormal (.parseError r f c) s).strlen = s.strlen := rfl
@[simp] theorem takeAbnormal_parseError_idseed (r : AddrReg) (f : Nat) (c : ParseCause) (s : State) :
    (takeAbnormal (.parseError r f c) s).idseed = s.idseed := rfl
@[simp] theorem takeAbnormal_parseError_csfold (r : AddrReg) (f : Nat) (c : ParseCause) (s : State) :
    (takeAbnormal (.parseError r f c) s).csfold = s.csfold := rfl
@[simp] theorem takeAbnormal_parseError_csres (r : AddrReg) (f : Nat) (c : ParseCause) (s : State) :
    (takeAbnormal (.parseError r f c) s).csres = s.csres := rfl
@[simp] theorem takeAbnormal_parseError_crcres (r : AddrReg) (f : Nat) (c : ParseCause) (s : State) :
    (takeAbnormal (.parseError r f c) s).crcres = s.crcres := rfl
@[simp] theorem takeAbnormal_parseError_txbase (r : AddrReg) (f : Nat) (c : ParseCause) (s : State) :
    (takeAbnormal (.parseError r f c) s).txbase = s.txbase := rfl
@[simp] theorem takeAbnormal_parseError_txcount (r : AddrReg) (f : Nat) (c : ParseCause) (s : State) :
    (takeAbnormal (.parseError r f c) s).txcount = s.txcount := rfl
@[simp] theorem takeAbnormal_parseError_txbytes (r : AddrReg) (f : Nat) (c : ParseCause) (s : State) :
    (takeAbnormal (.parseError r f c) s).txbytes = s.txbytes := rfl
@[simp] theorem takeAbnormal_parseError_txvar (r : AddrReg) (f : Nat) (c : ParseCause) (s : State) :
    (takeAbnormal (.parseError r f c) s).txvar = s.txvar := rfl
@[simp] theorem takeAbnormal_parseError_txctrl (r : AddrReg) (f : Nat) (c : ParseCause) (s : State) :
    (takeAbnormal (.parseError r f c) s).txctrl = s.txctrl := rfl
@[simp] theorem takeAbnormal_parseError_status (r : AddrReg) (f : Nat) (c : ParseCause) (s : State) :
    (takeAbnormal (.parseError r f c) s).status = { s.status.setValid r false with perr := true } := rfl
@[simp] theorem takeAbnormal_parseError_errinfo (r : AddrReg) (f : Nat) (c : ParseCause) (s : State) :
    (takeAbnormal (.parseError r f c) s).errinfo = { ev := true, cause := c, field := BitVec.ofNat 3 f, src := r } := rfl
@[simp] theorem takeAbnormal_parseError_txlog (r : AddrReg) (f : Nat) (c : ParseCause) (s : State) :
    (takeAbnormal (.parseError r f c) s).txlog = s.txlog := rfl
@[simp] theorem takeAbnormal_parseError_cfg (r : AddrReg) (f : Nat) (c : ParseCause) (s : State) :
    (takeAbnormal (.parseError r f c) s).cfg = s.cfg := rfl
@[simp] theorem takeAbnormal_parseError_epoch (r : AddrReg) (f : Nat) (c : ParseCause) (s : State) :
    (takeAbnormal (.parseError r f c) s).epoch = s.epoch := rfl
@[simp] theorem takeAbnormal_parseError_pending (r : AddrReg) (f : Nat) (c : ParseCause) (s : State) :
    (takeAbnormal (.parseError r f c) s).pending = s.pending := rfl
@[simp] theorem takeAbnormal_parseError_replies (r : AddrReg) (f : Nat) (c : ParseCause) (s : State) :
    (takeAbnormal (.parseError r f c) s).replies = s.replies := rfl

/-! ## setDescriptor -/

@[simp] theorem setDescriptor_dmac (v : FrameVariant) (s : State) :
    (setDescriptor v s).dmac = s.dmac := rfl
@[simp] theorem setDescriptor_smac (v : FrameVariant) (s : State) :
    (setDescriptor v s).smac = s.smac := rfl
@[simp] theorem setDescriptor_sip (v : FrameVariant) (s : State) :
    (setDescriptor v s).sip = s.sip := rfl
@[simp] theorem setDescriptor_dip (v : FrameVariant) (s : State) :
    (setDescriptor v s).dip = s.dip := rfl
@[simp] theorem setDescriptor_fb (v : FrameVariant) (s : State) :
    (setDescriptor v s).fb = s.fb := rfl
@[simp] theorem setDescriptor_str (v : FrameVariant) (s : State) :
    (setDescriptor v s).str = s.str := rfl
@[simp] theorem setDescriptor_strlen (v : FrameVariant) (s : State) :
    (setDescriptor v s).strlen = s.strlen := rfl
@[simp] theorem setDescriptor_idseed (v : FrameVariant) (s : State) :
    (setDescriptor v s).idseed = s.idseed := rfl
@[simp] theorem setDescriptor_csfold (v : FrameVariant) (s : State) :
    (setDescriptor v s).csfold = s.csfold := rfl
@[simp] theorem setDescriptor_csres (v : FrameVariant) (s : State) :
    (setDescriptor v s).csres = s.csres := rfl
@[simp] theorem setDescriptor_crcres (v : FrameVariant) (s : State) :
    (setDescriptor v s).crcres = s.crcres := rfl
@[simp] theorem setDescriptor_txbase (v : FrameVariant) (s : State) :
    (setDescriptor v s).txbase = windowBase v := rfl
@[simp] theorem setDescriptor_txcount (v : FrameVariant) (s : State) :
    (setDescriptor v s).txcount = wordCount s.cfg v := rfl
@[simp] theorem setDescriptor_txbytes (v : FrameVariant) (s : State) :
    (setDescriptor v s).txbytes = 4 * (wordCount s.cfg v).setWidth 7 := rfl
@[simp] theorem setDescriptor_txvar (v : FrameVariant) (s : State) :
    (setDescriptor v s).txvar = v := rfl
@[simp] theorem setDescriptor_txctrl (v : FrameVariant) (s : State) :
    (setDescriptor v s).txctrl = controlWord s.cfg v (wordCount s.cfg v) := rfl
@[simp] theorem setDescriptor_status (v : FrameVariant) (s : State) :
    (setDescriptor v s).status = { s.status with built := true } := rfl
@[simp] theorem setDescriptor_errinfo (v : FrameVariant) (s : State) :
    (setDescriptor v s).errinfo = s.errinfo := rfl
@[simp] theorem setDescriptor_txlog (v : FrameVariant) (s : State) :
    (setDescriptor v s).txlog = s.txlog := rfl
@[simp] theorem setDescriptor_cfg (v : FrameVariant) (s : State) :
    (setDescriptor v s).cfg = s.cfg := rfl
@[simp] theorem setDescriptor_epoch (v : FrameVariant) (s : State) :
    (setDescriptor v s).epoch = s.epoch := rfl
@[simp] theorem setDescriptor_pending (v : FrameVariant) (s : State) :
    (setDescriptor v s).pending = s.pending := rfl
@[simp] theorem setDescriptor_replies (v : FrameVariant) (s : State) :
    (setDescriptor v s).replies = s.replies := rfl

/-! ## writeStrlen -/

@[simp] theorem writeStrlen_dmac (v : Word) (s : State) :
    (writeStrlen v s).dmac = s.dmac := rfl
@[simp] theorem writeStrlen_smac (v : Word) (s : State) :
    (writeStrlen v s).smac = s.smac := rfl
@[simp] theorem writeStrlen_sip (v : Word) (s : State) :
    (writeStrlen v s).sip = s.sip := rfl
@[simp] theorem writeStrlen_dip (v : Word) (s : State) :
    (writeStrlen v s).dip = s.dip := rfl
@[simp] theorem writeStrlen_fb (v : Word) (s : State) :
    (writeStrlen v s).fb = s.fb := rfl
@[simp] theorem writeStrlen_str (v : Word) (s : State) :
    (writeStrlen v s).str = s.str := rfl
@[simp] theorem writeStrlen_strlen (v : Word) (s : State) :
    (writeStrlen v s).strlen = BitVec.ofNat 7 (min v.toNat s.cfg.strMax) := rfl
@[simp] theorem writeStrlen_idseed (v : Word) (s : State) :
    (writeStrlen v s).idseed = s.idseed := rfl
@[simp] theorem writeStrlen_csfold (v : Word) (s : State) :
    (writeStrlen v s).csfold = s.csfold := rfl
@[simp] theorem writeStrlen_csres (v : Word) (s : State) :
    (writeStrlen v s).csres = s.csres := rfl
@[simp] theorem writeStrlen_crcres (v : Word) (s : State) :
    (writeStrlen v s).crcres = s.crcres := rfl
@[simp] theorem writeStrlen_txbase (v : Word) (s : State) :
    (writeStrlen v s).txbase = s.txbase := rfl
@[simp] theorem writeStrlen_txcount (v : Word) (s : State) :
    (writeStrlen v s).txcount = s.txcount := rfl
@[simp] theorem writeStrlen_txbytes (v : Word) (s : State) :
    (writeStrlen v s).txbytes = s.txbytes := rfl
@[simp] theorem writeStrlen_txvar (v : Word) (s : State) :
    (writeStrlen v s).txvar = s.txvar := rfl
@[simp] theorem writeStrlen_txctrl (v : Word) (s : State) :
    (writeStrlen v s).txctrl = s.txctrl := rfl
@[simp] theorem writeStrlen_status (v : Word) (s : State) :
    (writeStrlen v s).status = s.status := rfl
@[simp] theorem writeStrlen_errinfo (v : Word) (s : State) :
    (writeStrlen v s).errinfo = s.errinfo := rfl
@[simp] theorem writeStrlen_txlog (v : Word) (s : State) :
    (writeStrlen v s).txlog = s.txlog := rfl
@[simp] theorem writeStrlen_cfg (v : Word) (s : State) :
    (writeStrlen v s).cfg = s.cfg := rfl
@[simp] theorem writeStrlen_epoch (v : Word) (s : State) :
    (writeStrlen v s).epoch = s.epoch := rfl
@[simp] theorem writeStrlen_pending (v : Word) (s : State) :
    (writeStrlen v s).pending = s.pending := rfl
@[simp] theorem writeStrlen_replies (v : Word) (s : State) :
    (writeStrlen v s).replies = s.replies := rfl

/-! ## writeIdseed -/

@[simp] theorem writeIdseed_dmac (v : Word) (s : State) :
    (writeIdseed v s).dmac = s.dmac := rfl
@[simp] theorem writeIdseed_smac (v : Word) (s : State) :
    (writeIdseed v s).smac = s.smac := rfl
@[simp] theorem writeIdseed_sip (v : Word) (s : State) :
    (writeIdseed v s).sip = s.sip := rfl
@[simp] theorem writeIdseed_dip (v : Word) (s : State) :
    (writeIdseed v s).dip = s.dip := rfl
@[simp] theorem writeIdseed_fb (v : Word) (s : State) :
    (writeIdseed v s).fb = s.fb := rfl
@[simp] theorem writeIdseed_str (v : Word) (s : State) :
    (writeIdseed v s).str = s.str := rfl
@[simp] theorem writeIdseed_strlen (v : Word) (s : State) :
    (writeIdseed v s).strlen = s.strlen := rfl
@[simp] theorem writeIdseed_idseed (v : Word) (s : State) :
    (writeIdseed v s).idseed = halfLo v := rfl
@[simp] theorem writeIdseed_csfold (v : Word) (s : State) :
    (writeIdseed v s).csfold = s.csfold := rfl
@[simp] theorem writeIdseed_csres (v : Word) (s : State) :
    (writeIdseed v s).csres = s.csres := rfl
@[simp] theorem writeIdseed_crcres (v : Word) (s : State) :
    (writeIdseed v s).crcres = s.crcres := rfl
@[simp] theorem writeIdseed_txbase (v : Word) (s : State) :
    (writeIdseed v s).txbase = s.txbase := rfl
@[simp] theorem writeIdseed_txcount (v : Word) (s : State) :
    (writeIdseed v s).txcount = s.txcount := rfl
@[simp] theorem writeIdseed_txbytes (v : Word) (s : State) :
    (writeIdseed v s).txbytes = s.txbytes := rfl
@[simp] theorem writeIdseed_txvar (v : Word) (s : State) :
    (writeIdseed v s).txvar = s.txvar := rfl
@[simp] theorem writeIdseed_txctrl (v : Word) (s : State) :
    (writeIdseed v s).txctrl = s.txctrl := rfl
@[simp] theorem writeIdseed_status (v : Word) (s : State) :
    (writeIdseed v s).status = s.status := rfl
@[simp] theorem writeIdseed_errinfo (v : Word) (s : State) :
    (writeIdseed v s).errinfo = s.errinfo := rfl
@[simp] theorem writeIdseed_txlog (v : Word) (s : State) :
    (writeIdseed v s).txlog = s.txlog := rfl
@[simp] theorem writeIdseed_cfg (v : Word) (s : State) :
    (writeIdseed v s).cfg = s.cfg := rfl
@[simp] theorem writeIdseed_epoch (v : Word) (s : State) :
    (writeIdseed v s).epoch = s.epoch := rfl
@[simp] theorem writeIdseed_pending (v : Word) (s : State) :
    (writeIdseed v s).pending = s.pending := rfl
@[simp] theorem writeIdseed_replies (v : Word) (s : State) :
    (writeIdseed v s).replies = s.replies := rfl

/-! ## hostWriteFb -/

@[simp] theorem hostWriteFb_dmac (k : Nat) (v : Word) (s : State) :
    (hostWriteFb k v s).dmac = s.dmac := rfl
@[simp] theorem hostWriteFb_smac (k : Nat) (v : Word) (s : State) :
    (hostWriteFb k v s).smac = s.smac := rfl
@[simp] theorem hostWriteFb_sip (k : Nat) (v : Word) (s : State) :
    (hostWriteFb k v s).sip = s.sip := rfl
@[simp] theorem hostWriteFb_dip (k : Nat) (v : Word) (s : State) :
    (hostWriteFb k v s).dip = s.dip := rfl
@[simp] theorem hostWriteFb_fb (k : Nat) (v : Word) (s : State) :
    (hostWriteFb k v s).fb = Memory.insertWord s.fb k v := rfl
@[simp] theorem hostWriteFb_str (k : Nat) (v : Word) (s : State) :
    (hostWriteFb k v s).str = s.str := rfl
@[simp] theorem hostWriteFb_strlen (k : Nat) (v : Word) (s : State) :
    (hostWriteFb k v s).strlen = s.strlen := rfl
@[simp] theorem hostWriteFb_idseed (k : Nat) (v : Word) (s : State) :
    (hostWriteFb k v s).idseed = s.idseed := rfl
@[simp] theorem hostWriteFb_csfold (k : Nat) (v : Word) (s : State) :
    (hostWriteFb k v s).csfold = s.csfold := rfl
@[simp] theorem hostWriteFb_csres (k : Nat) (v : Word) (s : State) :
    (hostWriteFb k v s).csres = s.csres := rfl
@[simp] theorem hostWriteFb_crcres (k : Nat) (v : Word) (s : State) :
    (hostWriteFb k v s).crcres = s.crcres := rfl
@[simp] theorem hostWriteFb_txbase (k : Nat) (v : Word) (s : State) :
    (hostWriteFb k v s).txbase = s.txbase := rfl
@[simp] theorem hostWriteFb_txcount (k : Nat) (v : Word) (s : State) :
    (hostWriteFb k v s).txcount = s.txcount := rfl
@[simp] theorem hostWriteFb_txbytes (k : Nat) (v : Word) (s : State) :
    (hostWriteFb k v s).txbytes = s.txbytes := rfl
@[simp] theorem hostWriteFb_txvar (k : Nat) (v : Word) (s : State) :
    (hostWriteFb k v s).txvar = s.txvar := rfl
@[simp] theorem hostWriteFb_txctrl (k : Nat) (v : Word) (s : State) :
    (hostWriteFb k v s).txctrl = s.txctrl := rfl
@[simp] theorem hostWriteFb_status (k : Nat) (v : Word) (s : State) :
    (hostWriteFb k v s).status = { s.status with built := false } := rfl
@[simp] theorem hostWriteFb_errinfo (k : Nat) (v : Word) (s : State) :
    (hostWriteFb k v s).errinfo = s.errinfo := rfl
@[simp] theorem hostWriteFb_txlog (k : Nat) (v : Word) (s : State) :
    (hostWriteFb k v s).txlog = s.txlog := rfl
@[simp] theorem hostWriteFb_cfg (k : Nat) (v : Word) (s : State) :
    (hostWriteFb k v s).cfg = s.cfg := rfl
@[simp] theorem hostWriteFb_epoch (k : Nat) (v : Word) (s : State) :
    (hostWriteFb k v s).epoch = s.epoch := rfl
@[simp] theorem hostWriteFb_pending (k : Nat) (v : Word) (s : State) :
    (hostWriteFb k v s).pending = s.pending := rfl
@[simp] theorem hostWriteFb_replies (k : Nat) (v : Word) (s : State) :
    (hostWriteFb k v s).replies = s.replies := rfl

/-! ## hostRead -/

@[simp] theorem hostRead_dmac (a : HostAddr) (s : State) :
    (hostRead a s).dmac = s.dmac := rfl
@[simp] theorem hostRead_smac (a : HostAddr) (s : State) :
    (hostRead a s).smac = s.smac := rfl
@[simp] theorem hostRead_sip (a : HostAddr) (s : State) :
    (hostRead a s).sip = s.sip := rfl
@[simp] theorem hostRead_dip (a : HostAddr) (s : State) :
    (hostRead a s).dip = s.dip := rfl
@[simp] theorem hostRead_fb (a : HostAddr) (s : State) :
    (hostRead a s).fb = s.fb := rfl
@[simp] theorem hostRead_str (a : HostAddr) (s : State) :
    (hostRead a s).str = s.str := rfl
@[simp] theorem hostRead_strlen (a : HostAddr) (s : State) :
    (hostRead a s).strlen = s.strlen := rfl
@[simp] theorem hostRead_idseed (a : HostAddr) (s : State) :
    (hostRead a s).idseed = s.idseed := rfl
@[simp] theorem hostRead_csfold (a : HostAddr) (s : State) :
    (hostRead a s).csfold = s.csfold := rfl
@[simp] theorem hostRead_csres (a : HostAddr) (s : State) :
    (hostRead a s).csres = s.csres := rfl
@[simp] theorem hostRead_crcres (a : HostAddr) (s : State) :
    (hostRead a s).crcres = s.crcres := rfl
@[simp] theorem hostRead_txbase (a : HostAddr) (s : State) :
    (hostRead a s).txbase = s.txbase := rfl
@[simp] theorem hostRead_txcount (a : HostAddr) (s : State) :
    (hostRead a s).txcount = s.txcount := rfl
@[simp] theorem hostRead_txbytes (a : HostAddr) (s : State) :
    (hostRead a s).txbytes = s.txbytes := rfl
@[simp] theorem hostRead_txvar (a : HostAddr) (s : State) :
    (hostRead a s).txvar = s.txvar := rfl
@[simp] theorem hostRead_txctrl (a : HostAddr) (s : State) :
    (hostRead a s).txctrl = s.txctrl := rfl
@[simp] theorem hostRead_status (a : HostAddr) (s : State) :
    (hostRead a s).status = s.status := rfl
@[simp] theorem hostRead_errinfo (a : HostAddr) (s : State) :
    (hostRead a s).errinfo = s.errinfo := rfl
@[simp] theorem hostRead_txlog (a : HostAddr) (s : State) :
    (hostRead a s).txlog = s.txlog := rfl
@[simp] theorem hostRead_cfg (a : HostAddr) (s : State) :
    (hostRead a s).cfg = s.cfg := rfl
@[simp] theorem hostRead_epoch (a : HostAddr) (s : State) :
    (hostRead a s).epoch = s.epoch := rfl
@[simp] theorem hostRead_pending (a : HostAddr) (s : State) :
    (hostRead a s).pending = s.pending := rfl
@[simp] theorem hostRead_replies (a : HostAddr) (s : State) :
    (hostRead a s).replies = s.replies ++ [{ addr := a, value := hostReadValue a s }] := rfl

/-! ## pushInput -/

@[simp] theorem pushInput_dmac (i : Input) (s : State) :
    (pushInput i s).dmac = s.dmac := rfl
@[simp] theorem pushInput_smac (i : Input) (s : State) :
    (pushInput i s).smac = s.smac := rfl
@[simp] theorem pushInput_sip (i : Input) (s : State) :
    (pushInput i s).sip = s.sip := rfl
@[simp] theorem pushInput_dip (i : Input) (s : State) :
    (pushInput i s).dip = s.dip := rfl
@[simp] theorem pushInput_fb (i : Input) (s : State) :
    (pushInput i s).fb = s.fb := rfl
@[simp] theorem pushInput_str (i : Input) (s : State) :
    (pushInput i s).str = s.str := rfl
@[simp] theorem pushInput_strlen (i : Input) (s : State) :
    (pushInput i s).strlen = s.strlen := rfl
@[simp] theorem pushInput_idseed (i : Input) (s : State) :
    (pushInput i s).idseed = s.idseed := rfl
@[simp] theorem pushInput_csfold (i : Input) (s : State) :
    (pushInput i s).csfold = s.csfold := rfl
@[simp] theorem pushInput_csres (i : Input) (s : State) :
    (pushInput i s).csres = s.csres := rfl
@[simp] theorem pushInput_crcres (i : Input) (s : State) :
    (pushInput i s).crcres = s.crcres := rfl
@[simp] theorem pushInput_txbase (i : Input) (s : State) :
    (pushInput i s).txbase = s.txbase := rfl
@[simp] theorem pushInput_txcount (i : Input) (s : State) :
    (pushInput i s).txcount = s.txcount := rfl
@[simp] theorem pushInput_txbytes (i : Input) (s : State) :
    (pushInput i s).txbytes = s.txbytes := rfl
@[simp] theorem pushInput_txvar (i : Input) (s : State) :
    (pushInput i s).txvar = s.txvar := rfl
@[simp] theorem pushInput_txctrl (i : Input) (s : State) :
    (pushInput i s).txctrl = s.txctrl := rfl
@[simp] theorem pushInput_status (i : Input) (s : State) :
    (pushInput i s).status = s.status := rfl
@[simp] theorem pushInput_errinfo (i : Input) (s : State) :
    (pushInput i s).errinfo = s.errinfo := rfl
@[simp] theorem pushInput_txlog (i : Input) (s : State) :
    (pushInput i s).txlog = s.txlog := rfl
@[simp] theorem pushInput_cfg (i : Input) (s : State) :
    (pushInput i s).cfg = s.cfg := rfl
@[simp] theorem pushInput_epoch (i : Input) (s : State) :
    (pushInput i s).epoch = s.epoch := rfl
@[simp] theorem pushInput_pending (i : Input) (s : State) :
    (pushInput i s).pending = i :: s.pending := rfl
@[simp] theorem pushInput_replies (i : Input) (s : State) :
    (pushInput i s).replies = s.replies := rfl

/-! ## applyReset -/

@[simp] theorem applyReset_dmac (s : State) :
    (applyReset s).dmac = 0 := rfl
@[simp] theorem applyReset_smac (s : State) :
    (applyReset s).smac = 0 := rfl
@[simp] theorem applyReset_sip (s : State) :
    (applyReset s).sip = 0 := rfl
@[simp] theorem applyReset_dip (s : State) :
    (applyReset s).dip = 0 := rfl
@[simp] theorem applyReset_fb (s : State) :
    (applyReset s).fb = [] := rfl
@[simp] theorem applyReset_str (s : State) :
    (applyReset s).str = [] := rfl
@[simp] theorem applyReset_strlen (s : State) :
    (applyReset s).strlen = 0 := rfl
@[simp] theorem applyReset_idseed (s : State) :
    (applyReset s).idseed = 0 := rfl
@[simp] theorem applyReset_csfold (s : State) :
    (applyReset s).csfold = 0 := rfl
@[simp] theorem applyReset_csres (s : State) :
    (applyReset s).csres = 0 := rfl
@[simp] theorem applyReset_crcres (s : State) :
    (applyReset s).crcres = 0 := rfl
@[simp] theorem applyReset_txbase (s : State) :
    (applyReset s).txbase = 0 := rfl
@[simp] theorem applyReset_txcount (s : State) :
    (applyReset s).txcount = 0 := rfl
@[simp] theorem applyReset_txbytes (s : State) :
    (applyReset s).txbytes = 0 := rfl
@[simp] theorem applyReset_txvar (s : State) :
    (applyReset s).txvar = .ss := rfl
@[simp] theorem applyReset_txctrl (s : State) :
    (applyReset s).txctrl = 0 := rfl
@[simp] theorem applyReset_status (s : State) :
    (applyReset s).status = Status.clear := rfl
@[simp] theorem applyReset_errinfo (s : State) :
    (applyReset s).errinfo = ErrInfo.clear := rfl
@[simp] theorem applyReset_txlog (s : State) :
    (applyReset s).txlog = [] := rfl
@[simp] theorem applyReset_cfg (s : State) :
    (applyReset s).cfg = s.cfg := rfl
@[simp] theorem applyReset_epoch (s : State) :
    (applyReset s).epoch = s.epoch + 1 := rfl
@[simp] theorem applyReset_pending (s : State) :
    (applyReset s).pending = s.pending := rfl
@[simp] theorem applyReset_replies (s : State) :
    (applyReset s).replies = s.replies := rfl

/-! ## writeMac -/

@[simp] theorem writeMac_dmac (r : MacReg) (v : Mac) (s : State) :
    (writeMac r v s).dmac = if r = .dmac then v else s.dmac := by cases r <;> rfl
@[simp] theorem writeMac_smac (r : MacReg) (v : Mac) (s : State) :
    (writeMac r v s).smac = if r = .smac then v else s.smac := by cases r <;> rfl
@[simp] theorem writeMac_sip (r : MacReg) (v : Mac) (s : State) :
    (writeMac r v s).sip = s.sip := by cases r <;> rfl
@[simp] theorem writeMac_dip (r : MacReg) (v : Mac) (s : State) :
    (writeMac r v s).dip = s.dip := by cases r <;> rfl
@[simp] theorem writeMac_fb (r : MacReg) (v : Mac) (s : State) :
    (writeMac r v s).fb = s.fb := by cases r <;> rfl
@[simp] theorem writeMac_str (r : MacReg) (v : Mac) (s : State) :
    (writeMac r v s).str = s.str := by cases r <;> rfl
@[simp] theorem writeMac_strlen (r : MacReg) (v : Mac) (s : State) :
    (writeMac r v s).strlen = s.strlen := by cases r <;> rfl
@[simp] theorem writeMac_idseed (r : MacReg) (v : Mac) (s : State) :
    (writeMac r v s).idseed = s.idseed := by cases r <;> rfl
@[simp] theorem writeMac_csfold (r : MacReg) (v : Mac) (s : State) :
    (writeMac r v s).csfold = s.csfold := by cases r <;> rfl
@[simp] theorem writeMac_csres (r : MacReg) (v : Mac) (s : State) :
    (writeMac r v s).csres = s.csres := by cases r <;> rfl
@[simp] theorem writeMac_crcres (r : MacReg) (v : Mac) (s : State) :
    (writeMac r v s).crcres = s.crcres := by cases r <;> rfl
@[simp] theorem writeMac_txbase (r : MacReg) (v : Mac) (s : State) :
    (writeMac r v s).txbase = s.txbase := by cases r <;> rfl
@[simp] theorem writeMac_txcount (r : MacReg) (v : Mac) (s : State) :
    (writeMac r v s).txcount = s.txcount := by cases r <;> rfl
@[simp] theorem writeMac_txbytes (r : MacReg) (v : Mac) (s : State) :
    (writeMac r v s).txbytes = s.txbytes := by cases r <;> rfl
@[simp] theorem writeMac_txvar (r : MacReg) (v : Mac) (s : State) :
    (writeMac r v s).txvar = s.txvar := by cases r <;> rfl
@[simp] theorem writeMac_txctrl (r : MacReg) (v : Mac) (s : State) :
    (writeMac r v s).txctrl = s.txctrl := by cases r <;> rfl
@[simp] theorem writeMac_status (r : MacReg) (v : Mac) (s : State) :
    (writeMac r v s).status = s.status := by cases r <;> rfl
@[simp] theorem writeMac_errinfo (r : MacReg) (v : Mac) (s : State) :
    (writeMac r v s).errinfo = s.errinfo := by cases r <;> rfl
@[simp] theorem writeMac_txlog (r : MacReg) (v : Mac) (s : State) :
    (writeMac r v s).txlog = s.txlog := by cases r <;> rfl
@[simp] theorem writeMac_cfg (r : MacReg) (v : Mac) (s : State) :
    (writeMac r v s).cfg = s.cfg := by cases r <;> rfl
@[simp] theorem writeMac_epoch (r : MacReg) (v : Mac) (s : State) :
    (writeMac r v s).epoch = s.epoch := by cases r <;> rfl
@[simp] theorem writeMac_pending (r : MacReg) (v : Mac) (s : State) :
    (writeMac r v s).pending = s.pending := by cases r <;> rfl
@[simp] theorem writeMac_replies (r : MacReg) (v : Mac) (s : State) :
    (writeMac r v s).replies = s.replies := by cases r <;> rfl

/-! ## writeIp -/

@[simp] theorem writeIp_dmac (r : IpReg) (v : Word) (s : State) :
    (writeIp r v s).dmac = s.dmac := by cases r <;> rfl
@[simp] theorem writeIp_smac (r : IpReg) (v : Word) (s : State) :
    (writeIp r v s).smac = s.smac := by cases r <;> rfl
@[simp] theorem writeIp_sip (r : IpReg) (v : Word) (s : State) :
    (writeIp r v s).sip = if r = .sip then v else s.sip := by cases r <;> rfl
@[simp] theorem writeIp_dip (r : IpReg) (v : Word) (s : State) :
    (writeIp r v s).dip = if r = .dip then v else s.dip := by cases r <;> rfl
@[simp] theorem writeIp_fb (r : IpReg) (v : Word) (s : State) :
    (writeIp r v s).fb = s.fb := by cases r <;> rfl
@[simp] theorem writeIp_str (r : IpReg) (v : Word) (s : State) :
    (writeIp r v s).str = s.str := by cases r <;> rfl
@[simp] theorem writeIp_strlen (r : IpReg) (v : Word) (s : State) :
    (writeIp r v s).strlen = s.strlen := by cases r <;> rfl
@[simp] theorem writeIp_idseed (r : IpReg) (v : Word) (s : State) :
    (writeIp r v s).idseed = s.idseed := by cases r <;> rfl
@[simp] theorem writeIp_csfold (r : IpReg) (v : Word) (s : State) :
    (writeIp r v s).csfold = s.csfold := by cases r <;> rfl
@[simp] theorem writeIp_csres (r : IpReg) (v : Word) (s : State) :
    (writeIp r v s).csres = s.csres := by cases r <;> rfl
@[simp] theorem writeIp_crcres (r : IpReg) (v : Word) (s : State) :
    (writeIp r v s).crcres = s.crcres := by cases r <;> rfl
@[simp] theorem writeIp_txbase (r : IpReg) (v : Word) (s : State) :
    (writeIp r v s).txbase = s.txbase := by cases r <;> rfl
@[simp] theorem writeIp_txcount (r : IpReg) (v : Word) (s : State) :
    (writeIp r v s).txcount = s.txcount := by cases r <;> rfl
@[simp] theorem writeIp_txbytes (r : IpReg) (v : Word) (s : State) :
    (writeIp r v s).txbytes = s.txbytes := by cases r <;> rfl
@[simp] theorem writeIp_txvar (r : IpReg) (v : Word) (s : State) :
    (writeIp r v s).txvar = s.txvar := by cases r <;> rfl
@[simp] theorem writeIp_txctrl (r : IpReg) (v : Word) (s : State) :
    (writeIp r v s).txctrl = s.txctrl := by cases r <;> rfl
@[simp] theorem writeIp_status (r : IpReg) (v : Word) (s : State) :
    (writeIp r v s).status = s.status := by cases r <;> rfl
@[simp] theorem writeIp_errinfo (r : IpReg) (v : Word) (s : State) :
    (writeIp r v s).errinfo = s.errinfo := by cases r <;> rfl
@[simp] theorem writeIp_txlog (r : IpReg) (v : Word) (s : State) :
    (writeIp r v s).txlog = s.txlog := by cases r <;> rfl
@[simp] theorem writeIp_cfg (r : IpReg) (v : Word) (s : State) :
    (writeIp r v s).cfg = s.cfg := by cases r <;> rfl
@[simp] theorem writeIp_epoch (r : IpReg) (v : Word) (s : State) :
    (writeIp r v s).epoch = s.epoch := by cases r <;> rfl
@[simp] theorem writeIp_pending (r : IpReg) (v : Word) (s : State) :
    (writeIp r v s).pending = s.pending := by cases r <;> rfl
@[simp] theorem writeIp_replies (r : IpReg) (v : Word) (s : State) :
    (writeIp r v s).replies = s.replies := by cases r <;> rfl

/-! ## setValid -/

@[simp] theorem setValid_perr (f : Status) (r : AddrReg) (b : Bool) :
    (f.setValid r b).perr = f.perr := by cases r <;> rfl
@[simp] theorem setValid_ill (f : Status) (r : AddrReg) (b : Bool) :
    (f.setValid r b).ill = f.ill := by cases r <;> rfl
@[simp] theorem setValid_eoper (f : Status) (r : AddrReg) (b : Bool) :
    (f.setValid r b).eoper = f.eoper := by cases r <;> rfl
@[simp] theorem setValid_fatal (f : Status) (r : AddrReg) (b : Bool) :
    (f.setValid r b).fatal = f.fatal := by cases r <;> rfl
@[simp] theorem setValid_built (f : Status) (r : AddrReg) (b : Bool) :
    (f.setValid r b).built = f.built := by cases r <;> rfl
@[simp] theorem setValid_vok (f : Status) (r : AddrReg) (b : Bool) :
    (f.setValid r b).vok = f.vok := by cases r <;> rfl
@[simp] theorem setValid_dmacv (f : Status) (r : AddrReg) (b : Bool) :
    (f.setValid r b).dmacv = if r = .dmac then b else f.dmacv := by cases r <;> rfl
@[simp] theorem setValid_smacv (f : Status) (r : AddrReg) (b : Bool) :
    (f.setValid r b).smacv = if r = .smac then b else f.smacv := by cases r <;> rfl
@[simp] theorem setValid_sipv (f : Status) (r : AddrReg) (b : Bool) :
    (f.setValid r b).sipv = if r = .sip then b else f.sipv := by cases r <;> rfl
@[simp] theorem setValid_dipv (f : Status) (r : AddrReg) (b : Bool) :
    (f.setValid r b).dipv = if r = .dip then b else f.dipv := by cases r <;> rfl

end Sys2Proof.Machine
end

