-- ==== Sys2Proof/Laws/Memory.lean ====
section
/-! SUPPORT. The laws of the byte stores: a read after a write, every other address, and the canonical form. -/

namespace Sys2Proof.Machine

@[simp] theorem Memory.lookup_nil (a : Nat) : Memory.lookup [] a = none := rfl

theorem Memory.lookup_cons (k a : Nat) (b : Byte) (m : Memory) :
    Memory.lookup ((k, b) :: m) a = if k = a then some b else Memory.lookup m a := rfl

/-- What a write does to every read. -/
theorem Memory.lookup_insert (m : Memory) (a x : Nat) (b : Byte) :
    Memory.lookup (Memory.insert m a b) x = if x = a then some b else Memory.lookup m x := by
  induction m with
  | nil => simp [Memory.insert, Memory.lookup_cons, eq_comm]
  | cons c m ih =>
    obtain ⟨k, c⟩ := c
    unfold Memory.insert
    by_cases h1 : a < k
    · simp only [if_pos h1, Memory.lookup_cons, eq_comm (a := a)]
    · by_cases h2 : a = k
      · subst h2
        simp only [if_neg h1, if_true, Memory.lookup_cons, eq_comm (a := a)]
        split_ifs <;> rfl
      · simp only [if_neg h1, if_neg h2, Memory.lookup_cons, ih]
        split_ifs <;> first | rfl | omega

@[simp] theorem Memory.lookup_insert_same (m : Memory) (a : Nat) (b : Byte) :
    Memory.lookup (Memory.insert m a b) a = some b := by simp [Memory.lookup_insert]

theorem Memory.lookup_insert_other (m : Memory) {a x : Nat} (b : Byte) (h : x ≠ a) :
    Memory.lookup (Memory.insert m a b) x = Memory.lookup m x := by simp [Memory.lookup_insert, h]

/-- A write lists its own cell and otherwise only cells listed before. -/
theorem Memory.mem_insert {m : Memory} {a : Nat} {b : Byte} {x : Host.Cell} (h : x ∈ Memory.insert m a b) :
    x = (a, b) ∨ x ∈ m := by
  induction m with
  | nil => simpa [Memory.insert] using h
  | cons c m ih =>
    obtain ⟨k, c⟩ := c
    unfold Memory.insert at h
    split_ifs at h with h1 h2
    · simpa using h
    · simp only [List.mem_cons] at h ⊢
      tauto
    · simp only [List.mem_cons] at h ⊢
      rcases h with h | h
      · tauto
      · rcases ih h with h | h <;> tauto

/-- A write keeps the canonical form. -/
theorem Memory.wf_insert {m : Memory} (hm : Memory.wf m) (a : Nat) (b : Byte) : Memory.wf (Memory.insert m a b) := by
  induction m with
  | nil => simp [Memory.insert, Memory.wf]
  | cons c m ih =>
    obtain ⟨k, c⟩ := c
    have hm' := List.pairwise_cons.mp hm
    unfold Memory.insert
    split_ifs with h1 h2
    · refine List.pairwise_cons.mpr ⟨?_, hm⟩
      intro x hx
      rcases List.mem_cons.mp hx with rfl | hx
      · exact h1
      · exact lt_trans h1 (hm'.1 x hx)
    · subst h2
      exact List.pairwise_cons.mpr ⟨hm'.1, hm'.2⟩
    · refine List.pairwise_cons.mpr ⟨?_, ih hm'.2⟩
      intro x hx
      rcases Memory.mem_insert hx with rfl | hx
      · show k < a
        omega
      · exact hm'.1 x hx

@[simp] theorem Memory.wf_nil : Memory.wf [] := List.Pairwise.nil

/-- A bound on the listed addresses is kept by a write below it. -/
theorem Memory.insert_below {m : Memory} {n a : Nat} (b : Byte) (hm : ∀ x ∈ m, x.1 < n) (ha : a < n) :
    ∀ x ∈ Memory.insert m a b, x.1 < n := by
  intro x hx
  rcases Memory.mem_insert hx with rfl | hx
  · exact ha
  · exact hm x hx

theorem Memory.marked_insert (m : Memory) (a x : Nat) (b : Byte) :
    Memory.marked (Memory.insert m a b) x = (decide (x = a) || Memory.marked m x) := by
  unfold Memory.marked
  rw [Memory.lookup_insert]
  split_ifs with h <;> simp [h]

/-! ## Whole words -/

/-- What a word write does to every byte read. -/
theorem Memory.lookup_insertWord (m : Memory) (k x : Nat) (v : Word) :
    Memory.lookup (Memory.insertWord m k v) x
      = if x / 4 = k then some (byteOf v (x % 4)) else Memory.lookup m x := by
  unfold Memory.insertWord
  simp only [Memory.lookup_insert]
  by_cases h : x / 4 = k
  · have hx : x = 4 * k ∨ x = 4 * k + 1 ∨ x = 4 * k + 2 ∨ x = 4 * k + 3 := by omega
    rcases hx with rfl | rfl | rfl | rfl
    · have : 4 * k % 4 = 0 := by omega
      simp
    · have h1 : (4 * k + 1) % 4 = 1 := by omega
      have h2 : (4 * k + 1) / 4 = k := by omega
      simp [h1, h2]
    · have h1 : (4 * k + 2) % 4 = 2 := by omega
      have h2 : (4 * k + 2) / 4 = k := by omega
      simp [h1, h2]
    · have h1 : (4 * k + 3) % 4 = 3 := by omega
      have h2 : (4 * k + 3) / 4 = k := by omega
      simp [h1, h2]
  · have h0 : x ≠ 4 * k := by omega
    have h1 : x ≠ 4 * k + 1 := by omega
    have h2 : x ≠ 4 * k + 2 := by omega
    have h3 : x ≠ 4 * k + 3 := by omega
    simp [h, h0, h1, h2, h3]

theorem Memory.marked_insertWord (m : Memory) (k x : Nat) (v : Word) :
    Memory.marked (Memory.insertWord m k v) x = (decide (x / 4 = k) || Memory.marked m x) := by
  unfold Memory.marked
  rw [Memory.lookup_insertWord]
  split_ifs with h <;> simp [h]

theorem Memory.wf_insertWord {m : Memory} (hm : Memory.wf m) (k : Nat) (v : Word) :
    Memory.wf (Memory.insertWord m k v) :=
  Memory.wf_insert (Memory.wf_insert (Memory.wf_insert (Memory.wf_insert hm _ _) _ _) _ _) _ _

theorem Memory.insertWord_below {m : Memory} {n k : Nat} (v : Word) (hm : ∀ x ∈ m, x.1 < 4 * n) (hk : k < n) :
    ∀ x ∈ Memory.insertWord m k v, x.1 < 4 * n :=
  Memory.insert_below _ (Memory.insert_below _ (Memory.insert_below _ (Memory.insert_below _ hm (by omega)) (by omega))
    (by omega)) (by omega)

end Sys2Proof.Machine
end

