-- ==== Sys2Proof/Laws/Frame.lean ====
section
/-! SUPPORT. The laws of the frame and string buffers: bytes and words of a value, reads after writes, marks. -/

namespace Sys2Proof.Machine

/-! ## Bytes and halves of a word -/

/-- The bits of a placed field. -/
theorem getLsbD_place {n : Nat} (v : BitVec n) (p i : Nat) :
    (place v p).getLsbD i = (decide (i < 32) && decide (p ≤ i) && v.getLsbD (i - p)) := by
  unfold place
  simp only [BitVec.getLsbD_shiftLeft, BitVec.getLsbD_setWidth]
  by_cases h1 : i < 32 <;> by_cases h2 : i < p
  · simp [h1, h2, show ¬ p ≤ i by omega]
  · simp [h1, h2, show p ≤ i by omega, show i - p < 32 by omega]
  · simp [h1]
  · simp [h1]

theorem byteOf_wordOfBytes_zero (a b c d : Byte) : byteOf (wordOfBytes a b c d) 0 = a := by
  apply BitVec.eq_of_getLsbD_eq
  intro i hi
  simp only [byteOf, wordOfBytes, BitVec.getLsbD_setWidth, BitVec.getLsbD_ushiftRight, BitVec.getLsbD_or, getLsbD_place]
  have h1 : b.getLsbD (24 - 8 * 0 + i - 16) = false := BitVec.getLsbD_of_ge _ _ (by omega)
  have h2 : c.getLsbD (24 - 8 * 0 + i - 8) = false := BitVec.getLsbD_of_ge _ _ (by omega)
  have h3 : d.getLsbD (24 + i) = false := BitVec.getLsbD_of_ge _ _ (by omega)
  simp [h1, h2, h3, hi, show 24 + i < 32 by omega]

theorem byteOf_wordOfBytes_one (a b c d : Byte) : byteOf (wordOfBytes a b c d) 1 = b := by
  apply BitVec.eq_of_getLsbD_eq
  intro i hi
  simp only [byteOf, wordOfBytes, BitVec.getLsbD_setWidth, BitVec.getLsbD_ushiftRight, BitVec.getLsbD_or, getLsbD_place]
  have h2 : c.getLsbD (24 - 8 * 1 + i - 8) = false := BitVec.getLsbD_of_ge _ _ (by omega)
  have h3 : d.getLsbD (16 + i) = false := BitVec.getLsbD_of_ge _ _ (by omega)
  simp [h2, h3, hi, show 16 + i < 32 by omega, show ¬ 24 ≤ 16 + i by omega]

theorem byteOf_wordOfBytes_two (a b c d : Byte) : byteOf (wordOfBytes a b c d) 2 = c := by
  apply BitVec.eq_of_getLsbD_eq
  intro i hi
  simp only [byteOf, wordOfBytes, BitVec.getLsbD_setWidth, BitVec.getLsbD_ushiftRight, BitVec.getLsbD_or, getLsbD_place]
  simp [hi, show 8 + i < 32 by omega, show ¬ 24 ≤ 8 + i by omega, show ¬ 16 ≤ 8 + i by omega]

theorem byteOf_wordOfBytes_three (a b c d : Byte) : byteOf (wordOfBytes a b c d) 3 = d := by
  apply BitVec.eq_of_getLsbD_eq
  intro i hi
  simp only [byteOf, wordOfBytes, BitVec.getLsbD_setWidth, BitVec.getLsbD_ushiftRight, BitVec.getLsbD_or, getLsbD_place]
  simp [hi, show i < 32 by omega, show ¬ 24 ≤ i by omega, show ¬ 16 ≤ i by omega, show ¬ 8 ≤ i by omega]

/-- A word is its four bytes. -/
theorem wordOfBytes_byteOf (v : Word) :
    wordOfBytes (byteOf v 0) (byteOf v 1) (byteOf v 2) (byteOf v 3) = v := by
  apply BitVec.eq_of_getLsbD_eq
  intro i hi
  simp only [byteOf, wordOfBytes, BitVec.getLsbD_setWidth, BitVec.getLsbD_ushiftRight, BitVec.getLsbD_or, getLsbD_place]
  by_cases h8 : i < 8
  · simp [hi, h8, show ¬ 24 ≤ i by omega, show ¬ 16 ≤ i by omega, show ¬ 8 ≤ i by omega]
  · by_cases h16 : i < 16
    · simp [hi, h8, show ¬ 24 ≤ i by omega, show ¬ 16 ≤ i by omega, show 8 ≤ i by omega, show i - 8 < 8 by omega,
        show 8 + (i - 8) = i by omega]
    · by_cases h24 : i < 24
      · simp [hi, h8, show ¬ 24 ≤ i by omega, show 16 ≤ i by omega, show ¬ i - 8 < 8 by omega,
          show i - 16 < 8 by omega, show 16 + (i - 16) = i by omega]
      · simp [hi, h8, show 24 ≤ i by omega, show ¬ i - 8 < 8 by omega, show ¬ i - 16 < 8 by omega,
          show i - 24 < 8 by omega, show 24 + (i - 24) = i by omega]

/-- The high half of `{hi, lo}`. -/
@[simp] theorem halfHi_wordOfHalves (a b : Half) : halfHi (wordOfHalves a b) = a := by
  apply BitVec.eq_of_getLsbD_eq
  intro i hi
  simp only [halfHi, wordOfHalves, BitVec.getLsbD_extractLsb', BitVec.getLsbD_or, getLsbD_place]
  simp [hi, show 16 + i < 32 by omega]

/-- The low half of `{hi, lo}`. -/
@[simp] theorem halfLo_wordOfHalves (a b : Half) : halfLo (wordOfHalves a b) = b := by
  apply BitVec.eq_of_getLsbD_eq
  intro i hi
  simp only [halfLo, wordOfHalves, BitVec.getLsbD_extractLsb', BitVec.getLsbD_or, getLsbD_place]
  simp [hi, show i < 32 by omega, show ¬ 16 ≤ i by omega]

/-- A word is its two halves. -/
theorem wordOfHalves_halves (w : Word) : wordOfHalves (halfHi w) (halfLo w) = w := by
  apply BitVec.eq_of_getLsbD_eq
  intro i hi
  simp only [halfHi, halfLo, wordOfHalves, BitVec.getLsbD_extractLsb', BitVec.getLsbD_or, getLsbD_place]
  by_cases h : i < 16
  · simp [hi, h, show ¬ 16 ≤ i by omega]
  · simp [hi, h, show 16 ≤ i by omega, show i - 16 < 16 by omega, show 16 + (i - 16) = i by omega]

/-! ## Reads of the buffers -/

/-- `FrameByte` looks at `FB` and the reset number only. -/
theorem frameByte_congr {s t : State} (hf : t.fb = s.fb) (he : t.epoch = s.epoch) (i : Nat) :
    frameByte t i = frameByte s i := by simp [frameByte, hf, he]

theorem fbWord_congr {s t : State} (hf : t.fb = s.fb) (he : t.epoch = s.epoch) (k : Nat) :
    fbWord t k = fbWord s k := by simp [fbWord, frameByte_congr hf he]

theorem fbMarked_congr {s t : State} (hf : t.fb = s.fb) (k : Nat) : fbMarked t k = fbMarked s k := by
  simp [fbMarked, hf]

/-- The parser's text looks at `STR`, `STRLEN` and the reset number only. -/
theorem parserText_congr {s t : State} (hs : t.str = s.str) (hl : t.strlen = s.strlen) (he : t.epoch = s.epoch) :
    parserText t = parserText s := by simp [parserText, strChar, hs, hl, he]

/-- Every stream byte after a word write. -/
theorem frameByte_writeFbWord (k i : Nat) (v : Word) (s : State) :
    frameByte (writeFbWord k v s) i = if i / 4 = k then byteOf v (i % 4) else frameByte s i := by
  simp only [frameByte, writeFbWord_fb, writeFbWord_epoch, Memory.lookup_insertWord]
  split_ifs <;> rfl

/-- Every word after a word write. -/
theorem fbWord_writeFbWord (k j : Nat) (v : Word) (s : State) :
    fbWord (writeFbWord k v s) j = if j = k then v else fbWord s j := by
  have h0 : 4 * j / 4 = j := by omega
  have h1 : (4 * j + 1) / 4 = j := by omega
  have h2 : (4 * j + 2) / 4 = j := by omega
  have h3 : (4 * j + 3) / 4 = j := by omega
  have m0 : 4 * j % 4 = 0 := by omega
  have m1 : (4 * j + 1) % 4 = 1 := by omega
  have m2 : (4 * j + 2) % 4 = 2 := by omega
  have m3 : (4 * j + 3) % 4 = 3 := by omega
  simp only [fbWord, frameByte_writeFbWord, h0, h1, h2, h3, m0, m1, m2, m3]
  split_ifs
  · exact wordOfBytes_byteOf v
  · rfl

@[simp] theorem fbWord_writeFbWord_same (k : Nat) (v : Word) (s : State) : fbWord (writeFbWord k v s) k = v := by
  simp [fbWord_writeFbWord]

theorem fbWord_writeFbWord_other {k j : Nat} (v : Word) (s : State) (h : j ≠ k) :
    fbWord (writeFbWord k v s) j = fbWord s j := by simp [fbWord_writeFbWord, h]

/-- A word write marks its word and no other. -/
theorem fbMarked_writeFbWord (k j : Nat) (v : Word) (s : State) :
    fbMarked (writeFbWord k v s) j = (decide (j = k) || fbMarked s j) := by
  have h0 : 4 * j / 4 = j := by omega
  have h1 : (4 * j + 1) / 4 = j := by omega
  have h2 : (4 * j + 2) / 4 = j := by omega
  have h3 : (4 * j + 3) / 4 = j := by omega
  simp only [fbMarked, writeFbWord_fb, Memory.marked_insertWord, h0, h1, h2, h3]
  by_cases h : j = k <;> simp [h]

/-- Every character after a character write. -/
theorem strChar_writeStr (k i : Nat) (c : Byte) (s : State) :
    strChar (writeStr k c s) i = if i = k then c else strChar s i := by
  simp only [strChar, writeStr_str, writeStr_epoch, Memory.lookup_insert]
  split_ifs <;> rfl

/-! ## A run of word writes changes `FB` only -/

/-- A run of word writes is a change of `FB` alone. -/
theorem writeFbWords_eq (k : Nat) (ws : List Word) (s : State) :
    writeFbWords k ws s = { s with fb := (writeFbWords k ws s).fb } := by
  induction ws generalizing k s with
  | nil => rfl
  | cons w ws ih =>
    show writeFbWords (k + 1) ws (writeFbWord k w s) = _
    rw [ih]
    rfl

/-- Every word after a run of word writes. -/
theorem fbWord_writeFbWords (k : Nat) (ws : List Word) (s : State) (j : Nat) :
    fbWord (writeFbWords k ws s) j
      = if h : k ≤ j ∧ j < k + ws.length then ws[j - k]'(by omega) else fbWord s j := by
  induction ws generalizing k s with
  | nil =>
    simp [writeFbWords]
  | cons w ws ih =>
    show fbWord (writeFbWords (k + 1) ws (writeFbWord k w s)) j = _
    rw [ih]
    by_cases hj : j = k
    · subst hj
      simp
    · by_cases h : k + 1 ≤ j ∧ j < k + 1 + ws.length
      · have h' : k ≤ j ∧ j < k + (w :: ws).length := by simp; omega
        rw [dif_pos h, dif_pos h']
        obtain ⟨d, rfl⟩ : ∃ d, j = k + 1 + d := ⟨j - (k + 1), by omega⟩
        have e1 : k + 1 + d - (k + 1) = d := by omega
        have e2 : k + 1 + d - k = d + 1 := by omega
        simp [e1, e2]
      · have h' : ¬ (k ≤ j ∧ j < k + (w :: ws).length) := by simp; omega
        rw [dif_neg h, dif_neg h', fbWord_writeFbWord_other _ _ hj]

end Sys2Proof.Machine
end

