-- ==== Sys2Proof/Laws/PerInstr.lean ====
section
/-! SUPPORT. Statements about every command as syntax, one lemma per constructor. -/

namespace Sys2Proof.Laws

/-- The word of a well-formed command matches the row of the opcode map that bears its mnemonic (R92). -/
def EncodesItsRow.Statement (i : Instr) : Prop :=
  i.wellFormed = true → ∃ r ∈ opcodeRows, r.mnemonic = i.mnemonic ∧ r.matchesWord (encode i) = true

theorem EncodesItsRow.nop : EncodesItsRow.Statement .nop := fun _ =>
  ⟨⟨"NOP", 0x00000000, 0xFFFFFFFF⟩, by decide, rfl, by decide⟩

theorem EncodesItsRow.clrerr : EncodesItsRow.Statement .clrerr := fun _ =>
  ⟨⟨"CLRERR", 0x10000000, 0xFFFFFFFF⟩, by decide, rfl, by decide⟩

theorem EncodesItsRow.pmac (sel : MacReg) : EncodesItsRow.Statement (.pmac sel) := fun _ =>
  ⟨⟨"PMAC", 0x20000000, 0xFFFFFFFE⟩, by decide, rfl, by cases sel <;> decide⟩

theorem EncodesItsRow.pip (sel : IpReg) : EncodesItsRow.Statement (.pip sel) := fun _ =>
  ⟨⟨"PIP", 0x30000002, 0xFFFFFFFE⟩, by decide, rfl, by cases sel <;> decide⟩

theorem EncodesItsRow.csum (base count : Nat) : EncodesItsRow.Statement (.csum base count) := by
  intro h
  simp only [Instr.wellFormed, baseFits, countFits, Bool.and_eq_true, decide_eq_true_eq] at h
  refine ⟨⟨"CSUM", 0x40000000, 0xFFFFF0E0⟩, by decide, rfl, ?_⟩
  have key : ∀ b < 16, ∀ c < 32, OpcodeRow.matchesWord ⟨"CSUM", 0x40000000, 0xFFFFF0E0⟩ (encode (.csum b c)) = true := by
    decide
  exact key base h.1 count h.2

theorem EncodesItsRow.cvfy (base count : Nat) : EncodesItsRow.Statement (.cvfy base count) := by
  intro h
  simp only [Instr.wellFormed, baseFits, countFits, Bool.and_eq_true, decide_eq_true_eq] at h
  refine ⟨⟨"CVFY", 0x50000000, 0xFFFFF0E0⟩, by decide, rfl, ?_⟩
  have key : ∀ b < 16, ∀ c < 32, OpcodeRow.matchesWord ⟨"CVFY", 0x50000000, 0xFFFFF0E0⟩ (encode (.cvfy b c)) = true := by
    decide
  exact key base h.1 count h.2

theorem EncodesItsRow.crc (len : Nat) : EncodesItsRow.Statement (.crc len) := by
  intro h
  simp only [Instr.wellFormed, lenFits, decide_eq_true_eq] at h
  refine ⟨⟨"CRC", 0x60000000, 0xFFFFFF80⟩, by decide, rfl, ?_⟩
  have key : ∀ n < 128, OpcodeRow.matchesWord ⟨"CRC", 0x60000000, 0xFFFFFF80⟩ (encode (.crc n)) = true := by decide
  exact key len h

theorem EncodesItsRow.crcd (len : Nat) : EncodesItsRow.Statement (.crcd len) := by
  intro h
  simp only [Instr.wellFormed, lenFits, decide_eq_true_eq] at h
  refine ⟨⟨"CRCD", 0x60000100, 0xFFFFFF80⟩, by decide, rfl, ?_⟩
  have key : ∀ n < 128, OpcodeRow.matchesWord ⟨"CRCD", 0x60000100, 0xFFFFFF80⟩ (encode (.crcd n)) = true := by decide
  exact key len h

theorem EncodesItsRow.send : EncodesItsRow.Statement .send := fun _ =>
  ⟨⟨"SEND", 0x70000000, 0xFFFFFFFF⟩, by decide, rfl, by decide⟩

theorem EncodesItsRow.build (variant : FrameVariant) : EncodesItsRow.Statement (.build variant) := fun _ =>
  ⟨⟨"BUILD", 0x80000000, 0xFFFFFFFC⟩, by decide, rfl, by cases variant <;> decide⟩

end Sys2Proof.Laws
end

