-- ==== Sys2Proof/Laws/Steps.lean ====
section
/-! SUPPORT. What each shared operation and each command can do, said once: if it answers a next state, then one of the
listed cases holds. The provers cite these instead of unfolding the definitions. -/

namespace Sys2Proof.Machine

variable {s t : State}

/-! ## The commands -/

theorem execPmac_cases {sel : MacReg} (h : execPmac sel s = .next t) :
    (∃ out, parseAddr macGrammar (parserText s) = .ok out
        ∧ t = parseSucceeded sel.toAddr (writeMac sel (packBytes 48 out) s))
      ∨ (∃ e, parseAddr macGrammar (parserText s) = .error e
        ∧ t = takeAbnormal (.parseError sel.toAddr e.field e.cause) s) := by
  unfold execPmac at h
  split at h <;> cases h
  · exact .inl ⟨_, ‹_›, rfl⟩
  · exact .inr ⟨_, ‹_›, rfl⟩

theorem execPip_cases {sel : IpReg} (h : execPip sel s = .next t) :
    (∃ out, parseAddr ipGrammar (parserText s) = .ok out
        ∧ t = parseSucceeded sel.toAddr (writeIp sel (packBytes 32 out) s))
      ∨ (∃ e, parseAddr ipGrammar (parserText s) = .error e
        ∧ t = takeAbnormal (.parseError sel.toAddr e.field e.cause) s) := by
  unfold execPip at h
  split at h <;> cases h
  · exact .inl ⟨_, ‹_›, rfl⟩
  · exact .inr ⟨_, ‹_›, rfl⟩

theorem execCsum_cases {base count : Nat} (h : execCsum base count s = .next t) :
    (regionInBuffer s base count = true
        ∧ t = { s with csfold := (csum s base count).1, csres := (csum s base count).2 })
      ∨ (regionInBuffer s base count = false ∧ t = takeAbnormal .operand s) := by
  unfold execCsum at h
  split at h <;> cases h
  · exact .inl ⟨‹_›, rfl⟩
  · rename_i hb
    exact .inr ⟨by simpa using hb, rfl⟩

theorem execCvfy_cases {base count : Nat} (h : execCvfy base count s = .next t) :
    (regionInBuffer s base count = true
        ∧ t = { s with
            csfold := (csum s base count).1
            status := { s.status with vok := (csum s base count).1 = 0xFFFF } })
      ∨ (regionInBuffer s base count = false ∧ t = takeAbnormal .operand s) := by
  unfold execCvfy at h
  split at h <;> cases h
  · exact .inl ⟨‹_›, rfl⟩
  · rename_i hb
    exact .inr ⟨by simpa using hb, rfl⟩

theorem execCrc_cases {len : Nat} (h : execCrc len s = .next t) :
    (len ≤ crcMaxLen s.cfg ∧ t = { s with crcres := crc32 s len false })
      ∨ (crcMaxLen s.cfg < len ∧ t = takeAbnormal .operand s) := by
  unfold execCrc at h
  split at h <;> cases h
  · exact .inr ⟨‹_›, rfl⟩
  · exact .inl ⟨by omega, rfl⟩

theorem execCrcd_cases {len : Nat} (h : execCrcd len s = .next t) :
    (s.cfg.crcDebugEnable = true ∧ len ≤ crcMaxLen s.cfg ∧ t = { s with crcres := crc32 s len true })
      ∨ ((s.cfg.crcDebugEnable = false ∨ crcMaxLen s.cfg < len) ∧ t = takeAbnormal .operand s) := by
  unfold execCrcd at h
  split at h
  · cases h
    exact .inr ⟨.inl ‹_›, rfl⟩
  · split at h <;> cases h
    · exact .inr ⟨.inr ‹_›, rfl⟩
    · exact .inl ⟨by simpa using ‹¬ s.cfg.crcDebugEnable = false›, by omega, rfl⟩

theorem execBuild_cases {v : FrameVariant} (h : execBuild v s = .next t) :
    (s.status.allValid = true ∧ layoutWords v ≤ s.cfg.fbWords ∧ t = buildFrame v s)
      ∨ (s.status.allValid = false ∧ t = takeAbnormal .operand s) := by
  unfold execBuild at h
  split at h
  · cases h
    exact .inr ⟨‹_›, rfl⟩
  · split at h <;> cases h
    exact .inl ⟨by simpa using ‹¬ s.status.allValid = false›, by omega, rfl⟩

theorem execSend_cases (h : execSend s = .next t) :
    (s.status.built = true ∧ s.txbase.toNat + s.txcount.toNat ≤ s.cfg.fbWords
        ∧ t = { emit (sendEvents s) s with status := { s.status with built := false } })
      ∨ (s.status.built = false ∧ t = takeAbnormal .operand s) := by
  unfold execSend at h
  split at h
  · cases h
    exact .inr ⟨‹_›, rfl⟩
  · split at h <;> cases h
    exact .inl ⟨by simpa using ‹¬ s.status.built = false›, by omega, rfl⟩

/-- What BUILD does once its precondition holds. -/
theorem buildFrame_cases (v : FrameVariant) (s : State) :
    (buildFrame v s = finishBuild v (writeFbWords 0 (draftWords s) s))
      ∨ (s.cfg.debugHook = true
          ∧ selfCheckPasses (regionSum (writeFbWords 0 (draftWords s) s) 4 ipHdrWords)
              (csum (writeFbWords 0 (draftWords s) s) 4 ipHdrWords).2 = false
          ∧ buildFrame v s = takeAbnormal .selfCheck (writeFbWords 0 (draftWords s) s)) := by
  have hc : (writeFbWords 0 (draftWords s) s).cfg = s.cfg := by rw [writeFbWords_eq]
  unfold buildFrame
  simp only [hc]
  split
  · rename_i h
    simp only [Bool.and_eq_true, Bool.not_eq_true'] at h
    exact .inr ⟨h.1, h.2, rfl⟩
  · exact .inl rfl

/-! ## BUILD's pieces change these fields and no other -/

theorem storeIpChecksum_eq (s : State) : storeIpChecksum s = { s with fb := (storeIpChecksum s).fb } := rfl

theorem storeIcmpChecksum_eq (s : State) :
    storeIcmpChecksum s
      = { s with fb := (storeIcmpChecksum s).fb, csfold := (csum s 9 3).1, csres := (csum s 9 3).2 } := rfl

theorem appendCrc_eq (s : State) :
    appendCrc s = { s with fb := (appendCrc s).fb, crcres := (appendCrc s).crcres } := rfl

/-! ## The host's actions -/

theorem deliverCommand_cases {w : Word} (h : deliverCommand w s = .next t) :
    (s.status.fatal = true ∧ t = s)
      ∨ (s.status.fatal = false ∧ ∃ i, decode w = .ok i ∧ exec i s = .next t)
      ∨ (s.status.fatal = false ∧ ∃ e, decode w = .error e ∧ t = takeAbnormal .illegal s) := by
  unfold deliverCommand at h
  split at h
  · cases h
    exact .inl ⟨‹_›, rfl⟩
  · rename_i hb
    have hf : s.status.fatal = false := by simpa using hb
    split at h
    · exact .inr (.inl ⟨hf, _, ‹_›, h⟩)
    · cases h
      exact .inr (.inr ⟨hf, _, ‹_›, rfl⟩)

/-- What a host write to any address but `CMD` can do. -/
theorem storeRegister_cases (a : HostAddr) (v : Word) (s : State) :
    storeRegister a v s = writeStrlen v s
      ∨ storeRegister a v s = writeIdseed v s
      ∨ (∃ k, k < s.cfg.fbWords ∧ k < 16 ∧ storeRegister a v s = hostWriteFb k v s)
      ∨ (∃ k, k < s.cfg.strMax ∧ k < 64 ∧ storeRegister a v s = writeStr k (v.setWidth 8) s)
      ∨ storeRegister a v s = s := by
  have ha := a.isLt
  unfold storeRegister
  split
  · exact .inl rfl
  split
  · exact .inr (.inl rfl)
  unfold writeBuffer fbIndex strIndex
  split
  · rename_i k hk
    split at hk <;> cases hk
    exact .inr (.inr (.inl ⟨_, by omega, by omega, rfl⟩))
  · split
    · rename_i k hk
      split at hk <;> cases hk
      exact .inr (.inr (.inr (.inl ⟨_, by omega, by omega, rfl⟩)))
    · exact .inr (.inr (.inr (.inr rfl)))

theorem performInput_cases {inp : Input} (h : performInput inp s = .next t) :
    (∃ w, inp = .hostWrite 0x00 w ∧ deliverCommand w s = .next t)
      ∨ (∃ a v, a ≠ 0x00 ∧ inp = .hostWrite a v ∧ t = storeRegister a v s)
      ∨ (∃ a, inp = .hostRead a ∧ t = hostRead a s)
      ∨ (inp = .reset ∧ t = applyReset s) := by
  cases inp with
  | hostWrite a v =>
    by_cases ha : a = 0x00
    · subst ha
      exact .inl ⟨v, rfl, by simpa [performInput, hostWrite] using h⟩
    · simp only [performInput, hostWrite, if_neg ha, Host.Outcome.next.injEq] at h
      exact .inr (.inl ⟨a, v, ha, rfl, h.symm⟩)
  | hostRead a =>
    cases h
    exact .inr (.inr (.inl ⟨a, rfl, rfl⟩))
  | reset =>
    cases h
    exact .inr (.inr (.inr ⟨rfl, rfl⟩))

/-- Everything a step can do. -/
theorem step_cases (h : step s = .next t) :
    (s.pending = [] ∧ t = s)
      ∨ (∃ inp rest, s.pending = inp :: rest ∧ performInput inp { s with pending := rest } = .next t) := by
  unfold step performNext at h
  split at h
  · cases h
    exact .inl ⟨‹_›, rfl⟩
  · exact .inr ⟨_, _, ‹_›, h⟩

/-- The step of a state whose next action is known. -/
theorem step_of_pending {inp : Input} {rest : List Input} (h : s.pending = inp :: rest) :
    step s = performInput inp { s with pending := rest } := by
  unfold step performNext
  rw [h]

/-- The word placed for the fetch is what the next step delivers. -/
theorem step_withFetchWord (s : State) (nbits w : Nat) :
    step (s.withFetchWord nbits w) = deliverCommand (BitVec.ofNat 32 (w % 2 ^ nbits)) s := rfl

end Sys2Proof.Machine
end

