-- ==== Sys2Proof/Tests/Slice0.lean ====
section
/-! SUPPORT. Tests of the model against the worked examples and vectors of spec/95_test_vectors.md (each names its
vector), the well-formedness smoke tests, and for every statement with hypotheses a concrete state that meets them
together. -/

namespace Sys2Proof.Tests

open Sys2Proof Sys2Proof.Machine Sys2Proof.Safety

/-! ## Helpers -/

/-- What a meaning answers, read through `f`; `none` for a fault or a refusal. -/
def after {α : Type} (o : Host.Outcome State Fault Refusal) (f : State → α) : Option α :=
  match o with
  | .next t => some (f t)
  | .fault _ => none
  | .refused _ => none

/-- The reset state with a text in the string buffer. -/
def textState (codes : List Nat) : State :=
  { State.reset with
    str := (List.range codes.length).map fun k => (k, BitVec.ofNat 8 (codes.getD k 0))
    strlen := BitVec.ofNat 7 codes.length }

/-- The reset state with words in the frame buffer from word 0. -/
def wordState (ws : List Word) : State := writeFbWords 0 ws State.reset

/-- The reset state with actions pending. -/
def pendingState (inputs : List Input) : State := { State.reset with pending := inputs }

/-- `s` with `FATAL` set. -/
def fatalState (s : State) : State := { s with status := { s.status with fatal := true } }

/-- The standard inputs S of the BUILD vectors: four valid addresses, seed 0. -/
def inputsS : State :=
  { State.reset with
    dmac := 0x000AE6F005A3, smac := 0x001234567890, sip := 0x0A000003, dip := 0x0A000002
    status := { Status.clear with dmacv := true, smacv := true, sipv := true, dipv := true } }

/-- A built HH frame ready to send: the descriptor of V-BLD-4 over a buffer holding words 3 to 11. -/
def builtHH : State :=
  { inputsS with
    fb := (wordState [0, 0, 0, 0x08000800, 0x45000020, 0, 0x40019926, 0x0A000003, 0x0A000002, 0x0800F7FF, 0, 0]).fb
    txbase := 3, txcount := 9, txbytes := 36, txvar := .hh, txctrl := 0x00004024
    status := { inputsS.status with built := true } }

/-- The header of V-CSM-7 with a third word. -/
def headerWith (third : Word) : State := wordState [0x45000073, 0x00004000, third, 0xC0A80001, 0xC0A800C7]

/-- The pattern P of the CRC vectors: stream byte `i` has value `i`. -/
def patternP : State := wordState [0x00010203, 0x04050607, 0x08090A0B, 0x0C0D0E0F, 0x10111213]

/-- The nine characters `123456789`. -/
def digits9 : State := wordState [0x31323334, 0x35363738, 0x39000000]

/-- `00:0a:e6:f0:05:a3`. -/
def macText : List Nat :=
  [0x30, 0x30, 0x3A, 0x30, 0x61, 0x3A, 0x65, 0x36, 0x3A, 0x66, 0x30, 0x3A, 0x30, 0x35, 0x3A, 0x61, 0x33]

/-- `AA:BB:CCC:DD:EE:FF`. -/
def overlenMac : List Nat :=
  [0x41, 0x41, 0x3A, 0x42, 0x42, 0x3A, 0x43, 0x43, 0x43, 0x3A, 0x44, 0x44, 0x3A, 0x45, 0x45, 0x3A, 0x46, 0x46]

/-- `999.1.1.1`. -/
def ipText : List Nat := [0x39, 0x39, 0x39, 0x2E, 0x31, 0x2E, 0x31, 0x2E, 0x31]

/-- `1.2,3.4`. -/
def missingIp : List Nat := [0x31, 0x2E, 0x32, 0x2C, 0x33, 0x2E, 0x34]

/-! ## Well-formedness: each check refuses an ill-formed term -/

theorem test_wf_refuses_wide_base : (Instr.csum 16 1).wellFormed = false := by decide
theorem test_wf_refuses_wide_count : (Instr.csum 15 32).wellFormed = false := by decide
theorem test_wf_refuses_wide_base_cvfy : (Instr.cvfy 16 0).wellFormed = false := by decide
theorem test_wf_refuses_wide_count_cvfy : (Instr.cvfy 0 32).wellFormed = false := by decide
theorem test_wf_refuses_wide_len : (Instr.crc 128).wellFormed = false := by decide
theorem test_wf_refuses_wide_len_crcd : (Instr.crcd 128).wellFormed = false := by decide

/-! ## Decoding: words written out from R90 and R92 (V-DEC) -/

theorem test_decode_nop : decode 0b00000000000000000000000000000000 = .ok .nop := by decide
theorem test_decode_clrerr : decode 0b00010000000000000000000000000000 = .ok .clrerr := by decide
theorem test_decode_pmac_dmac : decode 0b00100000000000000000000000000000 = .ok (.pmac .dmac) := by decide
theorem test_decode_pmac_smac : decode 0b00100000000000000000000000000001 = .ok (.pmac .smac) := by decide
theorem test_decode_pip_sip : decode 0b00110000000000000000000000000010 = .ok (.pip .sip) := by decide
theorem test_decode_pip_dip : decode 0b00110000000000000000000000000011 = .ok (.pip .dip) := by decide
theorem test_decode_csum : decode 0b01000000000000000000010000011111 = .ok (.csum 4 31) := by decide
theorem test_decode_cvfy : decode 0b01010000000000000000010000000101 = .ok (.cvfy 4 5) := by decide
theorem test_decode_crc : decode 0b01100000000000000000000001111111 = .ok (.crc 127) := by decide
theorem test_decode_crcd : decode 0b01100000000000000000000100010100 = .ok (.crcd 20) := by decide
theorem test_decode_send : decode 0b01110000000000000000000000000000 = .ok .send := by decide
theorem test_decode_build_sh : decode 0b10000000000000000000000000000001 = .ok (.build .sh) := by decide
theorem test_decode_build_hh : decode 0b10000000000000000000000000000011 = .ok (.build .hh) := by decide

/-- V-DEC-2, 4, 10, 13, 14, 15: a non-zero `zero` bit. -/
theorem test_decode_reserved_bits :
    decode 0x00000001 = .error .reservedBits
      ∧ decode 0x00010000 = .error .reservedBits
      ∧ decode 0x0FFFFFFF = .error .reservedBits
      ∧ decode 0x10000001 = .error .reservedBits
      ∧ decode 0x20000004 = .error .reservedBits
      ∧ decode 0x30000006 = .error .reservedBits
      ∧ decode 0x40000020 = .error .reservedBits
      ∧ decode 0x40001000 = .error .reservedBits
      ∧ decode 0x50000080 = .error .reservedBits
      ∧ decode 0x60000080 = .error .reservedBits
      ∧ decode 0x60000200 = .error .reservedBits
      ∧ decode 0x70000001 = .error .reservedBits
      ∧ decode 0x80000004 = .error .reservedBits :=
  ⟨rfl, rfl, rfl, rfl, rfl, rfl, rfl, rfl, rfl, rfl, rfl, rfl, rfl⟩

/-- V-DEC-6: a selector of the wrong kind. -/
theorem test_decode_wrong_selector :
    decode 0x20000002 = .error .wrongSelector
      ∧ decode 0x20000003 = .error .wrongSelector
      ∧ decode 0x30000000 = .error .wrongSelector
      ∧ decode 0x30000001 = .error .wrongSelector :=
  ⟨rfl, rfl, rfl, rfl⟩

/-- V-DEC-16: reserved opcodes. -/
theorem test_decode_reserved_opcode :
    decode 0x90000000 = .error .reservedOpcode
      ∧ decode 0xA0000000 = .error .reservedOpcode
      ∧ decode 0xF0000000 = .error .reservedOpcode
      ∧ decode 0xFFFFFFFF = .error .reservedOpcode :=
  ⟨rfl, rfl, rfl, rfl⟩

theorem test_table_word_csum : decodeTableWord 32 0x40000405 = some (.csum 4 5) := by decide
theorem test_table_word_illegal : decodeTableWord 32 0x90000000 = none := by decide

/-! ## Commands -/

theorem test_nop : after (exec .nop inputsS) (fun t => decide (t = inputsS)) = some true := by decide

/-- R251's worked example: after a failed `PMAC 0`, `STATUS` and `ERRINFO` are cleared. -/
theorem test_clrerr :
    after (exec .clrerr (takeAbnormal (.parseError .dmac 2 .overlen) State.reset))
      (fun t => (t.status.toWord, t.errinfo.toWord)) = some (0, 0) := by decide

/-- V-PAR-1. -/
theorem test_pmac_value :
    after (exec (.pmac .dmac) (textState macText)) (fun t => (t.dmac, t.status.toWord))
      = some (0x000AE6F005A3, 0x00000100) := by decide +kernel

/-- V-PAR-3: `STATUS` and `ERRINFO` of PRG-4's first parse. -/
theorem test_pmac_overlen :
    after (exec (.pmac .dmac) (textState overlenMac)) (fun t => (t.status.toWord, t.errinfo.toWord))
      = some (0x00000001, 0x80000120) := by decide +kernel

/-- V-PAR-14: 999 is 231 modulo 256. -/
theorem test_pip_value :
    after (exec (.pip .dip) (textState ipText)) (fun t => (t.dip, t.status.toWord))
      = some (0xE7010101, 0x00000800) := by decide +kernel

/-- V-PAR-18 with `sel` = 3, as in PRG-4. -/
theorem test_pip_missing :
    after (exec (.pip .dip) (textState missingIp)) (fun t => t.errinfo.toWord) = some 0x80000023 := by decide +kernel

/-- V-CSM-7. -/
theorem test_csum_header :
    after (exec (.csum 0 5) (headerWith 0x40110000)) (fun t => (t.csfold, t.csres)) = some (0x479E, 0xB861) := by
  decide +kernel

/-- V-CSM-3: two folds. -/
theorem test_csum_two_folds :
    after (exec (.csum 0 2) (wordState [0xFFFFFFFF, 0x00010000])) (fun t => (t.csfold, t.csres))
      = some (0x0001, 0xFFFE) := by decide +kernel

/-- V-CSM-8. -/
theorem test_cvfy_passes :
    after (exec (.cvfy 0 5) (headerWith 0x4011B861)) (fun t => (t.csfold, t.status.toWord))
      = some (0xFFFF, 0x00000020) := by decide +kernel

/-- V-CSM-11: the refusal of `CSUM 15, 2` is CVFY's too. -/
theorem test_cvfy_refused :
    after (exec (.cvfy 15 2) State.reset) (fun t => (t.csfold, t.status.toWord)) = some (0, 0x00000004) := by decide

/-- V-CRC-1. -/
theorem test_crc_check_value :
    after (exec (.crc 9) digits9) (fun t => t.crcres) = some 0x2639F4CB := by decide +kernel

/-- V-CRC-10: the skip region. -/
theorem test_crc_skips :
    after (exec (.crc 20) patternP) (fun t => t.crcres) = some 0xFDD2B3A6 := by decide +kernel

/-- V-CRC-13. -/
theorem test_crcd_value :
    after (exec (.crcd 9) digits9) (fun t => t.crcres) = some 0x882DFD2D := by decide +kernel

/-- V-DEC-17. -/
theorem test_crcd_disabled :
    after (exec (.crcd 20) { patternP with cfg := { standardConfig with crcDebugEnable := false } })
      (fun t => (t.crcres, t.status.toWord)) = some (0, 0x00000004) := by decide +kernel

/-- V-SND-4: the four events of a hardware-MAC hand-over. -/
theorem test_send_hardware_mac :
    after (exec .send builtHH) (fun t => (t.txlog, t.status.toWord))
      = some ([.writeMacDst 0x000AE6F005A3, .writeMacSrc 0x001234567890,
          .writeBulk 9 [0x08000800, 0x45000020, 0, 0x40019926, 0x0A000003, 0x0A000002, 0x0800F7FF, 0, 0],
          .writeTxCmd 0x00004024], 0x00000F00) := by decide +kernel

/-- V-SND-5. -/
theorem test_send_refused :
    after (exec .send State.reset) (fun t => (t.txlog, t.status.toWord)) = some ([], 0x00000004) := by decide

/-- V-BLD-1: the frame, the descriptor and the control word. -/
theorem test_build_ss :
    after (exec (.build .ss) inputsS) (fun t => (fbWindow t 0 14, hostReadValue 0x0E t, t.txctrl, t.status.toWord))
      = some ([0x000AE6F0, 0x05A30012, 0x34567890, 0x08000800, 0x45000020, 0, 0x40019926, 0x0A000003, 0x0A000002,
          0x0800F7FF, 0, 0, 0, 0x89825F6E], 0x0038000E, 0x0001C038, 0x00000F10) := by decide +kernel

/-- V-BLD-4 and V-BLD-5's checksum: the hardware variants write neither `FB[12]` nor `CRCRES`. -/
theorem test_build_hh :
    after (exec (.build .hh) { inputsS with idseed := 0xBEEF })
      (fun t => (fbWord t 5, fbWord t 6, fbMarked t 12, hostReadValue 0x0E t, t.txctrl, t.crcres))
      = some (0xBEEF0000, 0x40015816, false, 0x03240309, 0x00004024, 0) := by decide +kernel

/-! ## Steps and host access -/

/-- The word placed for the fetch is run by the very next step: `CRC 0` from reset (V-CRC-2). -/
theorem test_step_runs_fetched_word :
    after (step (State.reset.withFetchWord 32 0x60000000)) (fun t => (t.crcres, t.pending)) = some (0, []) := by decide

/-- V-DEC-16: an illegal word sets `ILL`. -/
theorem test_step_illegal :
    after (step (pendingState [wr 0x00 0x90000000])) (fun t => t.status.toWord) = some 0x00000002 := by decide

/-- R266: nothing runs while `FATAL` is set. -/
theorem test_step_fatal :
    after (step (fatalState (pendingState [wr 0x00 0x10000001]))) (fun t => t.status.toWord) = some 0x00000008 := by
  decide

/-- V-MEM-1. -/
theorem test_host_strlen_clamps :
    after (step (pendingState [wr 0x03 200])) (fun t => hostReadValue 0x03 t) = some 0x00000040 := by decide

/-- V-MEM-3. -/
theorem test_host_character :
    after (step (pendingState [wr 0x41 0xFFFFFF3A])) (fun t => hostReadValue 0x41 t) = some 0x0000003A := by decide

/-- V-SND-6: a host write to `FB` clears `BUILT`. -/
theorem test_host_frame_write_clears_built :
    after (step { builtHH with pending := [wr 0x1D 0x89825F6E] }) (fun t => (hostReadValue 0x1D t, t.status.toWord))
      = some (0x89825F6E, 0x00000F00) := by decide +kernel

/-- V-MEM-6. -/
theorem test_host_read_mac :
    after (step { inputsS with pending := [.hostRead 0x06] }) (fun t => t.replies)
      = some [⟨0x06, 0xE6F005A3⟩] := by decide

/-! ## Witnesses: states that meet the hypotheses of each statement together -/

/-- `DecodeOfEncode`: the widest operands. -/
theorem witness_DecodeOfEncode :
    (Instr.csum 15 31).wellFormed = true ∧ (Instr.crcd 127).wellFormed = true := by decide

theorem witness_EncodeOfDecode : decode 0x50000F1F = .ok (.cvfy 15 31) := by decide

/-- `DecoderFollowsOpcodeMap`: a row and a word that matches it, and a word that matches none. -/
theorem witness_DecoderFollowsOpcodeMap :
    (∃ r ∈ opcodeRows, 0x60000140 &&& r.mask = r.pattern) ∧ (∀ r ∈ opcodeRows, 0x90000000 &&& r.mask ≠ r.pattern) := by
  decide

/-- `CommandWriteFollowsOpcodeMap`, clause by clause. -/
theorem witness_CommandWriteFollowsOpcodeMap :
    (fatalState (pendingState [.hostWrite 0x00 0x70000000])).pending = .hostWrite 0x00 0x70000000 :: []
      ∧ (fatalState (pendingState [.hostWrite 0x00 0x70000000])).status.fatal = true
      ∧ (pendingState [.hostWrite 0x00 0x60000080]).status.fatal = false
      ∧ (∀ r ∈ opcodeRows, r.matchesWord 0x60000080 = false)
      ∧ (∃ r ∈ opcodeRows, r.matchesWord 0x80000003 = true)
      ∧ (pendingState [.hostWrite 0x00 0x80000003]).status.fatal = false := by decide

theorem witness_StepRunsTheDecodedCommand :
    (pendingState [.hostWrite 0x00 0x80000003, .reset]).pending = .hostWrite 0x00 0x80000003 :: [.reset]
      ∧ (pendingState [.hostWrite 0x00 0x80000003, .reset]).status.fatal = false
      ∧ decode 0x80000003 = .ok (.build .hh) := by decide

theorem witness_HostWriteOfFrameWord :
    ∀ k ∈ [0, 15], k < State.reset.cfg.fbWords ∧ State.reset.cfg.fbWords ≤ 16
      ∧ (pendingState [.hostWrite (BitVec.ofNat 7 (0x10 + k)) 0xDEADBEEF]).pending
          = .hostWrite (BitVec.ofNat 7 (0x10 + k)) 0xDEADBEEF :: [] := by decide

theorem witness_HostWriteOfCharacter :
    ∀ k ∈ [0, 63], k < State.reset.cfg.strMax ∧ State.reset.cfg.strMax ≤ 64
      ∧ (pendingState [.hostWrite (BitVec.ofNat 7 (0x40 + k)) 0x3A]).pending
          = .hostWrite (BitVec.ofNat 7 (0x40 + k)) 0x3A :: [] := by decide

/-- Values around the clamp of `STRLEN`, and a seed with its upper half set. -/
theorem witness_HostWriteOfLengthAndSeed :
    State.reset.cfg.strMax = 64
      ∧ (∀ v, (pendingState [.hostWrite 0x03 v]).pending = .hostWrite 0x03 v :: [])
      ∧ (∀ v, (pendingState [.hostWrite 0x04 v]).pending = .hostWrite 0x04 v :: []) :=
  ⟨rfl, fun _ => rfl, fun _ => rfl⟩

theorem witness_HostWriteElsewhereIsIgnored :
    State.reset.cfg.fbWords = 16 ∧ State.reset.cfg.strMax = 64
      ∧ ∀ a ∈ [0x01#7, 0x02, 0x05, 0x0F, 0x20, 0x3F],
          (a.toNat = 0x01 ∨ a.toNat = 0x02 ∨ (0x05 ≤ a.toNat ∧ a.toNat ≤ 0x0F) ∨ (0x20 ≤ a.toNat ∧ a.toNat ≤ 0x3F))
            ∧ (pendingState [.hostWrite a 7]).pending = .hostWrite a 7 :: [] := by decide

/-- `HostReadReturnsTheMap`: every address of the map's edges, each under one clause. -/
theorem witness_HostReadReturnsTheMap :
    State.reset.cfg.fbWords = 16 ∧ State.reset.cfg.strMax = 64
      ∧ (∀ a ∈ [0x00#7, 0x01, 0x02, 0x03, 0x04, 0x05, 0x06, 0x07, 0x08, 0x09, 0x0A, 0x0B, 0x0C, 0x0D, 0x0E, 0x0F, 0x10,
          0x1F, 0x20, 0x3F, 0x40, 0x7F], (pendingState [.hostRead a]).pending = .hostRead a :: []) := by decide +kernel

theorem witness_bits_outside_the_fields :
    6 ∉ [0, 1, 2, 3, 4, 5, 8, 9, 10, 11] ∧ 31 ∉ [0, 1, 2, 3, 4, 5, 8, 9, 10, 11] ∧ 7 ∉ [0, 1, 4, 5, 6, 8, 31]
      ∧ (∀ i ∈ [5, 7, 12, 15, 23, 26], (5 ≤ i ∧ i < 8) ∨ (12 ≤ i ∧ i < 16) ∨ i = 23 ∨ 26 ≤ i) := by decide

theorem witness_FrameWordReadsBack :
    15 < State.reset.cfg.fbWords ∧ State.reset.cfg.fbWords ≤ 16
      ∧ (pendingState [.hostWrite 0x1F 1, .hostRead 0x1F]).pending
          = .hostWrite (BitVec.ofNat 7 (0x10 + 15)) 1 :: .hostRead (BitVec.ofNat 7 (0x10 + 15)) :: [] := by decide

theorem witness_LdstrLoadsTheText :
    (List.replicate 64 (0x3A : Byte)).length ≤ 64 ∧ ([] : List Byte).length ≤ 64 ∧ State.reset.cfg.strMax = 64 := by
  decide

/-- `FieldValueIsDigitRunModulo256`: `12g` in base 16, and an empty run. -/
theorem witness_FieldValueIsDigitRunModulo256 :
    (∀ c ∈ [0x31#8, 0x32], (digitValue 16 c).isSome = true) ∧ digitValue 16 0x67 = none
      ∧ [0x67#8, 0x3A].head? = some 0x67 := by decide

theorem witness_PmacParsesSixFields :
    [[0x30#8, 0x30], [0x30, 0x61], [0x65, 0x36], [0x66, 0x30], [0x30, 0x35]].length = 5
      ∧ (∀ t ∈ [[0x30#8, 0x30], [0x30, 0x61], [0x65, 0x36], [0x66, 0x30], [0x30, 0x35]], tokenOk macGrammar t)
      ∧ parserText (textState macText)
          = joinTokens 0x3A [[0x30, 0x30], [0x30, 0x61], [0x65, 0x36], [0x66, 0x30], [0x30, 0x35]] [0x61, 0x33] := by
  decide +kernel

theorem witness_PipParsesFourFields :
    [[0x39#8, 0x39, 0x39], [0x31], [0x31]].length = 3
      ∧ (∀ t ∈ [[0x39#8, 0x39, 0x39], [0x31], [0x31]], tokenOk ipGrammar t)
      ∧ parserText (textState ipText) = joinTokens 0x2E [[0x39, 0x39, 0x39], [0x31], [0x31]] [0x31] := by decide +kernel

/-- `PmacReportsFirstFailingField`: a separator missing at field 4 and at field 0, a long token at field 2 and at
field 4. -/
theorem witness_PmacReportsFirstFailingField :
    (∀ t ∈ [[0x31#8], [0x32], [0x33], [0x34]], tokenOk macGrammar t) ∧ (0x3A#8 ∉ [0x35#8])
      ∧ parserText (textState [0x31, 0x3A, 0x32, 0x3A, 0x33, 0x3A, 0x34, 0x3A, 0x35])
          = joinTokens 0x3A [[0x31], [0x32], [0x33], [0x34]] [0x35]
      ∧ parserText (textState []) = joinTokens 0x3A [] []
      ∧ (0x3A#8 ∉ [0x43#8, 0x43, 0x43]) ∧ 2 < [0x43#8, 0x43, 0x43].length
      ∧ (∀ t ∈ [[0x41#8, 0x41], [0x42, 0x42]], tokenOk macGrammar t)
      ∧ parserText (textState overlenMac)
          = joinTokens 0x3A ([[0x41, 0x41], [0x42, 0x42]] ++ [[0x43, 0x43, 0x43]])
              [0x44, 0x44, 0x3A, 0x45, 0x45, 0x3A, 0x46, 0x46]
      ∧ parserText (textState [0x31, 0x3A, 0x32, 0x3A, 0x33, 0x3A, 0x34, 0x3A, 0x35, 0x35, 0x35, 0x3A])
          = joinTokens 0x3A ([[0x31], [0x32], [0x33], [0x34]] ++ [[0x35, 0x35, 0x35]]) [] := by decide +kernel

theorem witness_PipReportsFirstFailingField :
    (∀ t ∈ [[0x31#8], [0x32, 0x2C, 0x33]], tokenOk ipGrammar t) ∧ (0x2E#8 ∉ [0x34#8])
      ∧ parserText (textState missingIp) = joinTokens 0x2E [[0x31], [0x32, 0x2C, 0x33]] [0x34]
      ∧ (0x2E#8 ∉ [0x31#8, 0x32, 0x33, 0x34]) ∧ 3 < [0x31#8, 0x32, 0x33, 0x34].length
      ∧ parserText (textState [0x31, 0x32, 0x33, 0x34, 0x2E, 0x31])
          = joinTokens 0x2E ([] ++ [[0x31, 0x32, 0x33, 0x34]]) [0x31] := by decide +kernel

/-- `CsumStoresFoldedSumAndComplement`, `CvfyReportsAllOnesFold`: the last word alone, and the empty region past it. -/
theorem witness_checksum_region :
    State.reset.cfg.fbWords = 16 ∧ 15 + 1 ≤ 16 ∧ 16 + 0 ≤ 16 ∧ 16 < 15 + 2 := by decide

theorem witness_PatchedRegionFoldsToAllOnes :
    3 ≤ 5 ∧ 0 + 5 ≤ 16 ∧ halfLo (fbWord (headerWith 0x40110000) (0 + 2)) = 0 := by decide +kernel

/-- `CrcStoresReversedConventionalCrc`, `CrcdDropsBothInversions`: the largest legal lengths of both modes, and CRCD
switched off. -/
theorem witness_crc_lengths :
    State.reset.cfg.fbWords = 16 ∧ State.reset.cfg.crcLenMode = .indexBound ∧ State.reset.cfg.crcDebugEnable = true
      ∧ { standardConfig with crcLenMode := .processedCount }.fbWords = 16
      ∧ { standardConfig with crcDebugEnable := false }.crcDebugEnable = false
      ∧ crcMaxLen State.reset.cfg = 64 ∧ crcMaxLen { standardConfig with crcLenMode := .processedCount } = 62 := by
  decide

theorem witness_CrcIgnoresSkippedAndLaterBytes :
    patternP.cfg.crcLenMode = .indexBound
      ∧ (writeFbWord 3 0x0C0DFFFF patternP).cfg.crcLenMode = .indexBound
      ∧ (∀ i < 20, i ≠ 14 → i ≠ 15 → frameByte patternP i = frameByte (writeFbWord 3 0x0C0DFFFF patternP) i) := by
  decide +kernel

theorem witness_CountModeIsIndexModeShifted :
    { standardConfig with crcLenMode := .processedCount }.crcLenMode = .processedCount
      ∧ { standardConfig with crcLenMode := .processedCount }.fbWords = 16 := by decide

/-- BUILD's statements: the inputs S, every variant's layout, and that BUILD answers. -/
theorem witness_build_inputs :
    State.reset.status.dmacv = false ∧ inputsS.status.dmacv = true ∧ inputsS.status.smacv = true ∧ inputsS.status.sipv = true
      ∧ inputsS.status.dipv = true ∧ inputsS.status.allValid = true
      ∧ (∀ v ∈ [FrameVariant.ss, .sh, .hs, .hh], layoutWords v ≤ inputsS.cfg.fbWords) ∧ windowsFit inputsS.cfg := by
  decide

theorem witness_build_answers : ∀ v : FrameVariant, exec (.build v) inputsS = .next (buildFrame v inputsS) := by
  intro v
  cases v <;> rfl

/-- `BuildDependsOnInputsOnly`: two states that agree on the inputs and differ in the buffer. -/
theorem witness_BuildDependsOnInputsOnly :
    (writeFbWord 12 7 inputsS).status.allValid = true ∧ (writeFbWord 12 7 inputsS).cfg = inputsS.cfg
      ∧ (writeFbWord 12 7 inputsS).dmac = inputsS.dmac ∧ (writeFbWord 12 7 inputsS).smac = inputsS.smac
      ∧ (writeFbWord 12 7 inputsS).sip = inputsS.sip ∧ (writeFbWord 12 7 inputsS).dip = inputsS.dip
      ∧ (writeFbWord 12 7 inputsS).idseed = inputsS.idseed
      ∧ exec (.build .hs) (writeFbWord 12 7 inputsS) = .next (buildFrame .hs (writeFbWord 12 7 inputsS))
      ∧ exec (.build .ss) inputsS = .next (buildFrame .ss inputsS) ∧ hwCrc .hs = false ∧ hwCrc .ss = false :=
  ⟨rfl, rfl, rfl, rfl, rfl, rfl, rfl, rfl, rfl, rfl, rfl⟩

/-- `NopChangesNothing`, `ClrerrClearsTheErrorFlags`: their words pending, the latter under `FATAL`, and a word with
opcode 0 that is no NOP. -/
theorem witness_control_words :
    (pendingState [.hostWrite 0x00 0x00000000]).pending = .hostWrite 0x00 0x00000000 :: []
      ∧ (fatalState (pendingState [.hostWrite 0x00 0x10000000])).status.fatal = true
      ∧ (fatalState (pendingState [.hostWrite 0x00 0x10000000])).pending = .hostWrite 0x00 0x10000000 :: []
      ∧ (0x00000001 : Word).extractLsb' 28 4 = 0 := by decide

theorem witness_ControlWordHoldsItsFields :
    controlFieldsDisjoint standardConfig ∧ (14 : BitVec 5).toNat < 2 ^ standardConfig.ctrlWcWidth
      ∧ (0 ≠ standardConfig.ctrlGoBit ∧ 0 ≠ standardConfig.ctrlNohwcrcBit ∧ 0 ≠ standardConfig.ctrlNohwmacBit
          ∧ 0 < standardConfig.ctrlWcShift) := by decide

theorem witness_SendHandsOverTheWindow :
    State.reset.status.built = false ∧ builtHH.status.built = true
      ∧ builtHH.txbase.toNat + builtHH.txcount.toNat ≤ builtHH.cfg.fbWords := by decide

theorem witness_BuildThenSendHandsOverOneFrame :
    inputsS.status.allValid = true ∧ buffersSized inputsS.cfg ∧ windowsFit inputsS.cfg := by decide

/-- `EoperHasExactlyItsCauses`: one refused and one accepted form of each command that can be refused. -/
theorem witness_EoperHasExactlyItsCauses :
    (∀ i ∈ [Instr.csum 0 17, .cvfy 15 2, .crc 65, .crcd 65, .send, .build .ss], operandRefused State.reset i = true)
      ∧ (∀ i ∈ [Instr.csum 0 16, .cvfy 15 1, .crc 64, .crcd 64], operandRefused State.reset i = false)
      ∧ operandRefused builtHH .send = false ∧ operandRefused inputsS (.build .hh) = false
      ∧ exec (.csum 0 16) (takeAbnormal .operand State.reset)
          = .next { takeAbnormal .operand State.reset with
              csfold := (csum (takeAbnormal .operand State.reset) 0 16).1
              csres := (csum (takeAbnormal .operand State.reset) 0 16).2 }
      ∧ (takeAbnormal .operand State.reset).status.eoper = true :=
  ⟨by decide, by decide, by decide, by decide, rfl, rfl⟩

/-- `IllegalWordSetsIllUntilCleared`: an illegal word, and a CLRERR that clears `ILL`. -/
theorem witness_IllegalWordSetsIllUntilCleared :
    step { takeAbnormal .illegal State.reset with pending := [.hostWrite 0x00 0x10000000] }
        = .next (clearErrors (takeAbnormal .illegal State.reset))
      ∧ decode 0x90000000 = .error .reservedOpcode
      ∧ (pendingState [.hostWrite 0x00 0x90000000]).pending = .hostWrite 0x00 0x90000000 :: []
      ∧ State.reset.status.fatal = false
      ∧ (takeAbnormal .illegal State.reset).status.ill = true
      ∧ (clearErrors (takeAbnormal .illegal State.reset)).status.ill = false :=
  ⟨rfl, rfl, rfl, rfl, rfl, rfl⟩

/-- `OnlySendAppendsToTheLog`: a SEND changes the log. -/
theorem witness_OnlySendAppendsToTheLog :
    after (step { builtHH with pending := [.hostWrite 0x00 0x70000000] }) (fun t => decide (t.txlog ≠ builtHH.txlog))
      = some true := by decide +kernel

/-- `OnlyParsesWriteAddressRegisters`: a PMAC and a PIP change their registers. -/
theorem witness_OnlyParsesWriteAddressRegisters :
    after (step { textState macText with pending := [.hostWrite 0x00 0x20000000] }) (fun t => decide (t.dmac ≠ 0))
        = some true
      ∧ after (step { textState macText with pending := [.hostWrite 0x00 0x20000001] }) (fun t => decide (t.smac ≠ 0))
        = some true
      ∧ after (step { textState ipText with pending := [.hostWrite 0x00 0x30000002] }) (fun t => decide (t.sip ≠ 0))
        = some true
      ∧ after (step { textState ipText with pending := [.hostWrite 0x00 0x30000003] }) (fun t => decide (t.dip ≠ 0))
        = some true := by decide +kernel

/-- `FatalBlocksCommandsUntilReset`, clause by clause. -/
theorem witness_FatalBlocksCommandsUntilReset :
    (fatalState (pendingState [.hostWrite 0x10 1])).status.fatal = true
      ∧ (∀ w, Input.hostWrite 0x10 1 ≠ .hostWrite 0x00 w) ∧ (∀ a, Input.hostWrite 0x10 1 ≠ .hostRead a)
      ∧ Input.hostWrite 0x10 1 ≠ .reset
      ∧ (fatalState (pendingState [.hostRead 0x01])).pending = .hostRead 0x01 :: []
      ∧ step (fatalState (pendingState [.reset])) = .next (applyReset (fatalState (pendingState []))) := by
  refine ⟨rfl, ?_, ?_, ?_, rfl, rfl⟩
  · intro w h
    have : (0x10 : HostAddr) = 0x00 := (Input.hostWrite.inj h).1
    exact absurd this (by decide)
  · intro a h
    cases h
  · intro h
    cases h

/-- `StepTakesActionsInOrder`, and the invariants' hypothesis that a step answers. -/
theorem witness_step_answers :
    step (pendingState [.hostWrite 0x00 0x00000000, .reset]) = .next (pendingState [.reset]) := rfl

theorem witness_ExternalResetRestoresTheResetState :
    (pendingState [.reset, .hostRead 0x01]).pending = .reset :: [.hostRead 0x01] := rfl

/-- The invariants hold of a state with a built frame, from which SEND answers: the hypotheses of the invariants'
statements met with `BUILT` set. -/
theorem witness_invariants_of_a_built_frame :
    buffersCanonical builtHH ∧ frameDescribed builtHH ∧ builtHH.status.fatal = false
      ∧ logOfHandOvers builtHH.cfg builtHH.txlog = true ∧ controlFieldsDisjoint builtHH.cfg
      ∧ buffersSized builtHH.cfg ∧ windowsFit builtHH.cfg := by decide +kernel

theorem witness_send_of_a_built_frame :
    step { builtHH with pending := [.hostWrite 0x00 0x70000000] }
      = .next { emit (sendEvents builtHH) builtHH with status := { builtHH.status with built := false } } := rfl

end Sys2Proof.Tests
end

section
/-! SUPPORT. Folding as end-around carry (R153, R158, R159), and why BUILD's self-check always passes (R209, R265). -/

namespace Sys2Proof.Proofs

open Sys2Proof.Machine Sys2Proof.Safety

theorem halfHi_toNat (w : Word) : (halfHi w).toNat = w.toNat / 2 ^ 16 := by
  simp only [halfHi, BitVec.extractLsb'_toNat, Nat.shiftRight_eq_div_pow]
  omega

theorem halfLo_toNat (w : Word) : (halfLo w).toNat = w.toNat % 2 ^ 16 := by
  simp [halfLo]

/-- The sum of two halves does not wrap. -/
theorem add_halves_toNat (a b : Half) : (a.setWidth 32 + b.setWidth 32 : Word).toNat = a.toNat + b.toNat := by
  simp only [BitVec.toNat_add, BitVec.toNat_setWidth]
  omega

/-- The fold loop stops at a zero high half, whatever rounds are left (R153). -/
theorem foldRounds_of_halfHi_zero (n : Nat) {acc : Word} (h : halfHi acc = 0) : foldRounds n acc = acc := by
  cases n with
  | zero => rfl
  | succ n => simp [foldRounds, h]

/-- A round adds the halves, also when the high one is zero: it then changes nothing. -/
theorem foldRounds_succ (n : Nat) (acc : Word) :
    foldRounds (n + 1) acc = foldRounds n ((halfLo acc).setWidth 32 + (halfHi acc).setWidth 32) := by
  by_cases h : halfHi acc = 0
  · have hacc : (halfLo acc).setWidth 32 + (halfHi acc).setWidth 32 = acc := by
      have h0 : (halfHi acc).toNat = 0 := by simp [h]
      apply BitVec.eq_of_toNat_eq
      rw [add_halves_toNat]
      rw [halfHi_toNat] at h0 ⊢
      rw [halfLo_toNat]
      omega
    rw [hacc, foldRounds_of_halfHi_zero _ h, foldRounds_of_halfHi_zero _ h]
  · rw [foldRounds, if_neg h]

/-- Adding the halves keeps the representative modulo 0xFFFF. -/
theorem foldTotal_add_halves (n : Nat) : foldTotal (n % 2 ^ 16 + n / 2 ^ 16) = foldTotal n := by
  simp only [foldTotal]
  split_ifs <;> omega

theorem foldTotal_of_lt {n : Nat} (h : n < 2 ^ 16) : foldTotal n = n := by
  simp only [foldTotal]
  split_ifs <;> omega

/-- Folding is end-around carry (R158, R159). -/
theorem fold_toNat (acc : Word) : (fold acc).toNat = foldTotal acc.toNat := by
  have hacc := acc.isLt
  have hround (a : Word) :
      ((halfLo a).setWidth 32 + (halfHi a).setWidth 32 : Word).toNat = a.toNat % 2 ^ 16 + a.toNat / 2 ^ 16 := by
    rw [add_halves_toNat, halfLo_toNat, halfHi_toNat]
  rw [fold, foldRounds_succ, foldRounds_succ, foldRounds, halfLo_toNat, hround, hround]
  obtain ⟨m, hm⟩ : ∃ m, m = acc.toNat % 2 ^ 16 + acc.toNat / 2 ^ 16 := ⟨_, rfl⟩
  have hlt : m % 2 ^ 16 + m / 2 ^ 16 < 2 ^ 16 := by omega
  rw [← hm]
  calc (m % 2 ^ 16 + m / 2 ^ 16) % 2 ^ 16
      = m % 2 ^ 16 + m / 2 ^ 16 := Nat.mod_eq_of_lt hlt
    _ = foldTotal (m % 2 ^ 16 + m / 2 ^ 16) := (foldTotal_of_lt hlt).symm
    _ = foldTotal m := foldTotal_add_halves m
    _ = foldTotal acc.toNat := by rw [hm, foldTotal_add_halves]

/-- A sum with the complement of its own fold added to it folds to all ones, while that does not wrap (R158). -/
theorem fold_add_complement {acc : Word} (h : acc.toNat + 0xFFFF < 2 ^ 32) :
    fold (acc + (~~~ fold acc).setWidth 32) = 0xFFFF := by
  apply BitVec.eq_of_toNat_eq
  have hones : (0xFFFF : Half).toNat = 0xFFFF := rfl
  have hsum : (acc + (~~~ fold acc).setWidth 32).toNat = acc.toNat + (0xFFFF - foldTotal acc.toNat) := by
    simp only [BitVec.toNat_add, BitVec.toNat_setWidth, BitVec.toNat_not, fold_toNat]
    omega
  rw [fold_toNat, hsum, hones]
  simp only [foldTotal]
  split_ifs <;> omega

/-- The summation stays within two full halves a word, while that does not wrap (R152). -/
theorem sumHalves_toNat_le (s : State) (k n : Nat) (acc : Word) (h : acc.toNat + n * 0x1FFFE < 2 ^ 32) :
    (sumHalves s k n acc).toNat ≤ acc.toNat + n * 0x1FFFE := by
  induction n generalizing k acc with
  | zero => simp [sumHalves]
  | succ n ih =>
    have hhi := (halfHi (fbWord s k)).isLt
    have hlo := (halfLo (fbWord s k)).isLt
    have hsum : (acc + (halfHi (fbWord s k)).setWidth 32 + (halfLo (fbWord s k)).setWidth 32).toNat
        = acc.toNat + (halfHi (fbWord s k)).toNat + (halfLo (fbWord s k)).toNat := by
      simp only [BitVec.toNat_add, BitVec.toNat_setWidth]
      omega
    have := ih (k + 1) _ (by rw [hsum]; omega)
    rw [sumHalves]
    omega

/-- R209: the self-check of BUILD passes over every content of the header words. -/
theorem selfCheckPasses_header (s : State) :
    selfCheckPasses (regionSum s 4 ipHdrWords) (csum s 4 ipHdrWords).2 = true := by
  have hsum : (regionSum s 4 ipHdrWords).toNat ≤ 0 + 5 * 0x1FFFE := sumHalves_toNat_le s 4 5 0 (by decide)
  exact decide_eq_true (fold_add_complement (by omega))

/-- R265: BUILD never takes its self-check's abnormal outcome. -/
theorem buildFrame_eq_finishBuild (v : FrameVariant) (s : State) :
    buildFrame v s = finishBuild v (writeFbWords 0 (draftWords s) s) := by
  rcases buildFrame_cases v s with h | ⟨-, hfails, -⟩
  · exact h
  · simp [selfCheckPasses_header] at hfails

end Sys2Proof.Proofs
end

section
/-! SUPPORT. Which stream bytes the CRC that BUILD stores looks at (R181 c, R214). -/

namespace Sys2Proof.Proofs

open Sys2Proof.Machine

variable {s t : State}

theorem crcIndexLoop_congr {len : Nat} (h : ∀ i < len, frameByte t i = frameByte s i) (fuel i : Nat) (acc : Word) :
    crcIndexLoop t len fuel i acc = crcIndexLoop s len fuel i acc := by
  induction fuel generalizing i acc with
  | zero => rfl
  | succ fuel ih =>
    by_cases hi : len ≤ i
    · simp [crcIndexLoop, hi]
    · simp [crcIndexLoop, hi, ih, h i (by omega)]

/-- `n` processed bytes from index `i` reach two indices further when 14 and 15 lie ahead (R182). -/
theorem crcCountLoop_congr (n i : Nat)
    (h : ∀ j, j < i + n ∨ i ≤ 14 ∧ j < i + n + 2 → frameByte t j = frameByte s j) (acc : Word) :
    crcCountLoop t n i acc = crcCountLoop s n i acc := by
  induction n generalizing i acc with
  | zero => rfl
  | succ n ih =>
    by_cases hi : i = crcSkipFrom
    · subst hi
      simp only [crcSkipFrom] at h
      simp [crcCountLoop, crcSkipFrom, h 16 (by omega), ih 17 fun j hj => h j (by omega)]
    · have hi' : i ≠ 14 := hi
      simp [crcCountLoop, hi, h i (by omega), ih (i + 1) fun j hj => h j (by omega)]

/-- BUILD's frame check sequence depends on the 52 stream bytes before it only (R214). -/
theorem crc32_buildCrcLen_congr (hc : t.cfg = s.cfg) (h : ∀ i < 52, frameByte t i = frameByte s i) (debug : Bool) :
    crc32 t (buildCrcLen t.cfg) debug = crc32 s (buildCrcLen s.cfg) debug := by
  cases hmode : s.cfg.crcLenMode with
  | indexBound => simp [crc32, crcAccumulate, buildCrcLen, hc, hmode, crcIndexLoop_congr h]
  | processedCount =>
    have hcount := crcCountLoop_congr 50 0 fun j hj => h j (by omega)
    simp [crc32, crcAccumulate, buildCrcLen, hc, hmode, hcount]

end Sys2Proof.Proofs
end

section
/-! SUPPORT. The control word's fields (R104, R216) and the log of whole hand-overs (R224). -/

namespace Sys2Proof.Proofs

open Sys2Proof.Machine Sys2Proof.Safety

/-- A field leaves every bit outside its `width` bits clear. -/
theorem getLsbD_place_outside {n : Nat} {v : BitVec n} {width i : Nat} (p : Nat) (hv : v.toNat < 2 ^ width)
    (hi : i < p ∨ p + width ≤ i) : (place v p).getLsbD i = false := by
  rw [getLsbD_place]
  by_cases hp : p ≤ i
  · have hbit : v.getLsbD (i - p) = false :=
      Nat.testBit_lt_two_pow (lt_of_lt_of_le hv (Nat.pow_le_pow_right (by decide) (by omega)))
    simp [hbit]
  · simp [hp]

/-- A flag of the control word leaves every other bit clear. -/
theorem getLsbD_place_flag {b : BitVec 1} {i : Nat} (p : Nat) (hi : p ≠ i) : (place b p).getLsbD i = false :=
  getLsbD_place_outside p b.isLt (by omega)

section
variable {c : Config} (hc : controlFieldsDisjoint c) (v : FrameVariant)
include hc

theorem wordCount_lt : (wordCount c v).toNat < 2 ^ c.ctrlWcWidth := by
  obtain ⟨-, -, -, hfits⟩ := hc
  exact hfits v (by cases v <;> simp)

/-- The word count decodes back from the control word (R104). -/
theorem controlCount_controlWord : controlCount c (controlWord c v (wordCount c v)) = (wordCount c v).toNat := by
  have hn := wordCount_lt hc v
  obtain ⟨⟨-, -, -, hwidth⟩, -, hoff, -⟩ := hc
  simp only [List.forall_mem_cons] at hoff
  obtain ⟨hgo, hcrc, hmac, -⟩ := hoff
  apply Nat.eq_of_testBit_eq
  intro i
  rw [controlCount, Nat.testBit_mod_two_pow]
  by_cases hi : i < c.ctrlWcWidth
  · simp only [BitVec.testBit_toNat, BitVec.getLsbD_ushiftRight, controlWord, BitVec.getLsbD_or]
    rw [getLsbD_place_flag c.ctrlGoBit (by omega), getLsbD_place_flag c.ctrlNohwcrcBit (by omega),
      getLsbD_place_flag c.ctrlNohwmacBit (by omega), getLsbD_place]
    simp [hi, show c.ctrlWcShift + i < 32 by omega]
  · have hhigh : (wordCount c v).toNat.testBit i = false :=
      Nat.testBit_lt_two_pow (lt_of_lt_of_le hn (Nat.pow_le_pow_right (by decide) (by omega)))
    simp [hi, hhigh]

/-- The bit `NOHWMAC` of the control word (R104, R216). -/
theorem getLsbD_controlWord_nohwmac :
    (controlWord c v (wordCount c v)).getLsbD c.ctrlNohwmacBit = !hwMac v := by
  have hn := wordCount_lt hc v
  obtain ⟨⟨-, -, hmac, -⟩, ⟨-, hgo, hcrc⟩, hoff, -⟩ := hc
  have hcount := getLsbD_place_outside c.ctrlWcShift hn (hoff c.ctrlNohwmacBit (by simp))
  simp only [controlWord, BitVec.getLsbD_or, getLsbD_place_flag _ hgo, getLsbD_place_flag _ hcrc, hcount, getLsbD_place]
  simp [hmac]

/-- The events of a SEND are one whole hand-over, when the descriptor and the control word are those of a built
variant (R222, R224). -/
theorem logOfHandOvers_sendEvents {s : State} (hcount : s.txcount = wordCount c s.txvar)
    (hctrl : s.txctrl = controlWord c s.txvar s.txcount) : logOfHandOvers c (sendEvents s) = true := by
  have hlen : (fbWindow s s.txbase.toNat s.txcount.toNat).length = s.txcount.toNat := by simp [fbWindow]
  have hfield : controlCount c s.txctrl = s.txcount.toNat := by
    rw [hctrl, hcount, controlCount_controlWord hc]
  have hflag : s.txctrl.getLsbD c.ctrlNohwmacBit = !hwMac s.txvar := by
    rw [hctrl, hcount, getLsbD_controlWord_nohwmac hc]
  cases hmac : hwMac s.txvar <;>
    simp [sendEvents, hmac, logOfHandOvers, handOverAgrees, hlen, hfield, hflag]

end

/-- Whole hand-overs after whole hand-overs. -/
theorem logOfHandOvers_append {c : Config} {xs ys : List TxEvent} (hx : logOfHandOvers c xs = true)
    (hy : logOfHandOvers c ys = true) : logOfHandOvers c (xs ++ ys) = true := by
  fun_induction logOfHandOvers c xs with
  | case1 => exact hy
  | case2 count words ctrl rest ih =>
    simp only [Bool.and_eq_true] at hx
    simp [logOfHandOvers, hx.1, ih hx.2]
  | case3 dst src count words ctrl rest ih =>
    simp only [Bool.and_eq_true] at hx
    simp [logOfHandOvers, hx.1, ih hx.2]
  | case4 => cases hx

end Sys2Proof.Proofs
end

section
/-! SUPPORT. What one action of the outside can do to the buffer, the descriptor, `BUILT`, `FATAL` and `TXLOG`: one
inductive relation over the whole machine, from which each invariant is five short cases. -/

namespace Sys2Proof.Proofs

open Sys2Proof.Machine Sys2Proof.Safety

/-- The two states agree on the parameters and on everything BUILD leaves for SEND, `FATAL` and `TXLOG` included. -/
structure SameFrame (s t : State) : Prop where
  cfg : t.cfg = s.cfg
  fb : t.fb = s.fb
  epoch : t.epoch = s.epoch
  txbase : t.txbase = s.txbase
  txcount : t.txcount = s.txcount
  txbytes : t.txbytes = s.txbytes
  txvar : t.txvar = s.txvar
  txctrl : t.txctrl = s.txctrl
  built : t.status.built = s.status.built
  fatal : t.status.fatal = s.status.fatal
  txlog : t.txlog = s.txlog

theorem SameFrame.refl (s : State) : SameFrame s s := ⟨rfl, rfl, rfl, rfl, rfl, rfl, rfl, rfl, rfl, rfl, rfl⟩

/-- The state after a SEND that is not refused (R222). -/
def sent (s : State) : State := { emit (sendEvents s) s with status := { s.status with built := false } }

/-- What one action of the outside does to the frame and its hand-over. -/
inductive FrameEffect (s : State) : State → Prop where
  /-- No change: host reads, host writes outside `CMD` and `FB`, refusals, and every command but BUILD and SEND. -/
  | same {t : State} (h : SameFrame s t) : FrameEffect s t
  /-- A host write of `FB[k]` (R63). -/
  | frameWrite (k : Nat) (v : Word) : FrameEffect s (hostWriteFb k v s)
  /-- BUILD (R200). -/
  | build (v : FrameVariant) : FrameEffect s (finishBuild v (writeFbWords 0 (draftWords s) s))
  /-- SEND of a built frame (R222). -/
  | send (h : s.status.built = true) : FrameEffect s (sent s)
  /-- The external reset (R290). -/
  | reset : FrameEffect s (applyReset s)

/-! ## The commands and the host's actions -/

theorem sameFrame_takeAbnormal_operand (s : State) : SameFrame s (takeAbnormal .operand s) := by
  constructor <;> rfl

theorem sameFrame_takeAbnormal_parseError (r : AddrReg) (f : Nat) (c : ParseCause) (s : State) :
    SameFrame s (takeAbnormal (.parseError r f c) s) := by
  constructor <;> simp

theorem exec_frameEffect {i : Instr} {s t : State} (h : exec i s = .next t) : FrameEffect s t := by
  cases i with
  | nop =>
    cases h
    exact .same (.refl s)
  | clrerr =>
    cases h
    exact .same (by constructor <;> rfl)
  | pmac sel =>
    rcases execPmac_cases h with ⟨out, -, rfl⟩ | ⟨e, -, rfl⟩
    · exact .same (by constructor <;> simp)
    · exact .same (sameFrame_takeAbnormal_parseError ..)
  | pip sel =>
    rcases execPip_cases h with ⟨out, -, rfl⟩ | ⟨e, -, rfl⟩
    · exact .same (by constructor <;> simp)
    · exact .same (sameFrame_takeAbnormal_parseError ..)
  | csum base count =>
    rcases execCsum_cases h with ⟨-, rfl⟩ | ⟨-, rfl⟩
    · exact .same (by constructor <;> rfl)
    · exact .same (sameFrame_takeAbnormal_operand s)
  | cvfy base count =>
    rcases execCvfy_cases h with ⟨-, rfl⟩ | ⟨-, rfl⟩
    · exact .same (by constructor <;> rfl)
    · exact .same (sameFrame_takeAbnormal_operand s)
  | crc len =>
    rcases execCrc_cases h with ⟨-, rfl⟩ | ⟨-, rfl⟩
    · exact .same (by constructor <;> rfl)
    · exact .same (sameFrame_takeAbnormal_operand s)
  | crcd len =>
    rcases execCrcd_cases h with ⟨-, -, rfl⟩ | ⟨-, rfl⟩
    · exact .same (by constructor <;> rfl)
    · exact .same (sameFrame_takeAbnormal_operand s)
  | send =>
    rcases execSend_cases h with ⟨hbuilt, -, rfl⟩ | ⟨-, rfl⟩
    · exact .send hbuilt
    · exact .same (sameFrame_takeAbnormal_operand s)
  | build v =>
    rcases execBuild_cases h with ⟨-, -, rfl⟩ | ⟨-, rfl⟩
    · rw [buildFrame_eq_finishBuild]
      exact .build v
    · exact .same (sameFrame_takeAbnormal_operand s)

theorem storeRegister_frameEffect (a : HostAddr) (v : Word) (s : State) : FrameEffect s (storeRegister a v s) := by
  rcases storeRegister_cases a v s with h | h | ⟨k, -, -, h⟩ | ⟨k, -, -, h⟩ | h <;> rw [h]
  · exact .same (by constructor <;> rfl)
  · exact .same (by constructor <;> rfl)
  · exact .frameWrite k v
  · exact .same (by constructor <;> rfl)
  · exact .same (.refl s)

/-- Everything one action of the outside can do to the frame and its hand-over. -/
theorem performInput_frameEffect {inp : Input} {s t : State} (h : performInput inp s = .next t) :
    FrameEffect s t := by
  rcases performInput_cases h with ⟨w, -, hw⟩ | ⟨a, v, -, -, rfl⟩ | ⟨a, -, rfl⟩ | ⟨-, rfl⟩
  · rcases deliverCommand_cases hw with ⟨-, rfl⟩ | ⟨-, i, -, hi⟩ | ⟨-, e, -, rfl⟩
    · exact .same (.refl _)
    · exact exec_frameEffect hi
    · exact .same (by constructor <;> rfl)
  · exact storeRegister_frameEffect a v s
  · exact .same (by constructor <;> rfl)
  · exact .reset

end Sys2Proof.Proofs
end

section
/-! SUPPORT. What every action of the outside keeps: the parameters, the described frame, a clear `FATAL`, and a log of
whole hand-overs. -/

namespace Sys2Proof.Proofs

open Sys2Proof.Machine Sys2Proof.Safety

/-! ## What BUILD leaves -/

@[simp] theorem writeFbWords_cfg (k : Nat) (ws : List Word) (s : State) : (writeFbWords k ws s).cfg = s.cfg := by
  rw [writeFbWords_eq]
@[simp] theorem writeFbWords_status (k : Nat) (ws : List Word) (s : State) :
    (writeFbWords k ws s).status = s.status := by rw [writeFbWords_eq]
@[simp] theorem writeFbWords_txlog (k : Nat) (ws : List Word) (s : State) :
    (writeFbWords k ws s).txlog = s.txlog := by rw [writeFbWords_eq]

@[simp] theorem storeIpChecksum_cfg (s : State) : (storeIpChecksum s).cfg = s.cfg := rfl
@[simp] theorem storeIpChecksum_status (s : State) : (storeIpChecksum s).status = s.status := rfl
@[simp] theorem storeIpChecksum_txlog (s : State) : (storeIpChecksum s).txlog = s.txlog := rfl

@[simp] theorem storeIcmpChecksum_cfg (s : State) : (storeIcmpChecksum s).cfg = s.cfg := rfl
@[simp] theorem storeIcmpChecksum_status (s : State) : (storeIcmpChecksum s).status = s.status := rfl
@[simp] theorem storeIcmpChecksum_txlog (s : State) : (storeIcmpChecksum s).txlog = s.txlog := rfl

@[simp] theorem appendCrc_cfg (s : State) : (appendCrc s).cfg = s.cfg := rfl
@[simp] theorem appendCrc_status (s : State) : (appendCrc s).status = s.status := rfl
@[simp] theorem appendCrc_txlog (s : State) : (appendCrc s).txlog = s.txlog := rfl

/-- `FB[13]` is the check sequence of the words before it, as `frameDescribed` asks of a software-CRC frame (R214). -/
def HasCheckSequence (s : State) : Prop := fbWord s 13 = crc32 s (buildCrcLen s.cfg) false

/-- The check sequence rests on the buffer and the parameters only. -/
theorem HasCheckSequence.congr {s t : State} (h : HasCheckSequence s) (hcfg : t.cfg = s.cfg) (hfb : t.fb = s.fb)
    (hepoch : t.epoch = s.epoch) : HasCheckSequence t := by
  rw [HasCheckSequence, fbWord_congr hfb hepoch,
    crc32_buildCrcLen_congr hcfg fun i _ => frameByte_congr hfb hepoch i]
  exact h

/-- Storing the check sequence does not change it: the bytes of `FB[13]` are not among those summed. -/
theorem hasCheckSequence_writeFbWord (s : State) :
    HasCheckSequence (writeFbWord 13 (crc32 s (buildCrcLen s.cfg) false) s) := by
  have hbytes (v : Word) : ∀ i < 52, frameByte (writeFbWord 13 v s) i = frameByte s i := by
    intro i hi
    rw [frameByte_writeFbWord, if_neg (by omega)]
  rw [HasCheckSequence, fbWord_writeFbWord_same]
  exact (crc32_buildCrcLen_congr (writeFbWord_cfg ..) (hbytes _) false).symm

theorem hasCheckSequence_appendCrc (s : State) : HasCheckSequence (appendCrc s) :=
  (hasCheckSequence_writeFbWord (writeFbWord 12 s.cfg.padword s)).congr rfl rfl rfl

/-- BUILD ends in setting the descriptor of a state that has, in the software-CRC variants, its check sequence in
`FB[13]`. -/
theorem finishBuild_eq_setDescriptor (v : FrameVariant) (s : State) :
    ∃ u, finishBuild v s = setDescriptor v u ∧ u.cfg = s.cfg ∧ u.status = s.status ∧ u.txlog = s.txlog
      ∧ (hwCrc v = false → HasCheckSequence u) := by
  cases h : hwCrc v with
  | true =>
    refine ⟨storeIcmpChecksum (storeIpChecksum s), ?_, ?_⟩
    · simp [finishBuild, h]
    · simp
  | false =>
    refine ⟨appendCrc (storeIcmpChecksum (storeIpChecksum s)), ?_, ?_⟩
    · simp [finishBuild, h]
    · simp [hasCheckSequence_appendCrc]

theorem setDescriptor_frameDescribed {v : FrameVariant} {u : State}
    (h : hwCrc v = false → HasCheckSequence u) : frameDescribed (setDescriptor v u) := by
  intro _
  refine ⟨rfl, rfl, ?_, rfl, ?_⟩
  · simp only [setDescriptor_txbytes, setDescriptor_txcount]
    bv_omega
  · have hu (hv : hwCrc v = false) : HasCheckSequence (setDescriptor v u) := (h hv).congr rfl rfl rfl
    exact hu

/-! ## The invariants -/

section
variable {s t : State}

theorem SameFrame.keeps_frameDescribed (h : SameFrame s t) (hs : frameDescribed s) : frameDescribed t := by
  intro hbuilt
  rw [h.built] at hbuilt
  obtain ⟨hbase, hcount, hbytes, hctrl, hcrc⟩ := hs hbuilt
  refine ⟨?_, ?_, ?_, ?_, ?_⟩
  · rw [h.txbase, h.txvar, hbase]
  · rw [h.txcount, h.txvar, h.cfg, hcount]
  · rw [h.txbytes, h.txcount, hbytes]
  · rw [h.txctrl, h.txvar, h.txcount, h.cfg, hctrl]
  · rw [h.txvar]
    exact fun hv => HasCheckSequence.congr (hcrc hv) h.cfg h.fb h.epoch

/-- The parameters never change. -/
theorem FrameEffect.cfg_eq (h : FrameEffect s t) : t.cfg = s.cfg := by
  cases h with
  | same h => exact h.cfg
  | frameWrite k v => rfl
  | build v =>
    obtain ⟨u, hu, hcfg, -⟩ := finishBuild_eq_setDescriptor v (writeFbWords 0 (draftWords s) s)
    simp [hu, hcfg]
  | send => rfl
  | reset => rfl

/-- R265: no action sets `FATAL`. -/
theorem FrameEffect.keeps_fatal_clear (h : FrameEffect s t) (hs : s.status.fatal = false) : t.status.fatal = false := by
  cases h with
  | same h => rw [h.fatal, hs]
  | frameWrite k v => exact hs
  | build v =>
    obtain ⟨u, hu, -, hstatus, -⟩ := finishBuild_eq_setDescriptor v (writeFbWords 0 (draftWords s) s)
    simp [hu, hstatus, hs]
  | send => exact hs
  | reset => rfl

/-- R202, R214 to R216, R224 d: every action keeps what `BUILT` promises. -/
theorem FrameEffect.keeps_frameDescribed (h : FrameEffect s t) (hs : frameDescribed s) : frameDescribed t := by
  cases h with
  | same h => exact h.keeps_frameDescribed hs
  | frameWrite k v =>
    intro hbuilt
    simp at hbuilt
  | build v =>
    obtain ⟨u, hu, -, -, -, hcrc⟩ := finishBuild_eq_setDescriptor v (writeFbWords 0 (draftWords s) s)
    rw [hu]
    exact setDescriptor_frameDescribed hcrc
  | send =>
    intro hbuilt
    simp [sent] at hbuilt
  | reset =>
    intro hbuilt
    simp [Status.clear] at hbuilt

/-- R224 a, b, c: every action keeps `TXLOG` a sequence of whole hand-overs. -/
theorem FrameEffect.keeps_logOfHandOvers (h : FrameEffect s t) (hc : controlFieldsDisjoint s.cfg)
    (hs : frameDescribed s) (hlog : logOfHandOvers s.cfg s.txlog = true) : logOfHandOvers t.cfg t.txlog = true := by
  rw [h.cfg_eq]
  cases h with
  | same h => rwa [h.txlog]
  | frameWrite k v => exact hlog
  | build v =>
    obtain ⟨u, hu, -, -, htxlog, -⟩ := finishBuild_eq_setDescriptor v (writeFbWords 0 (draftWords s) s)
    simpa [hu, htxlog] using hlog
  | send hbuilt =>
    obtain ⟨-, hcount, -, hctrl, -⟩ := hs hbuilt
    exact logOfHandOvers_append hlog (logOfHandOvers_sendEvents hc hcount hctrl)
  | reset => rfl

/-! ## Every action answers -/

/-- Under parameters the layout rules hold for, no command stops the machine (R306). -/
theorem exec_answers (i : Instr) (hsize : buffersSized s.cfg) (hwin : windowsFit s.cfg) (hs : frameDescribed s) :
    ∃ t, exec i s = .next t := by
  have layoutWords_le (v : FrameVariant) : layoutWords v ≤ s.cfg.fbWords := by
    have : layoutWords v ≤ 14 := by cases v <;> decide
    omega
  cases i with
  | nop => exact ⟨_, rfl⟩
  | clrerr => exact ⟨_, rfl⟩
  | pmac sel =>
    simp only [exec, execPmac]
    split <;> exact ⟨_, rfl⟩
  | pip sel =>
    simp only [exec, execPip]
    split <;> exact ⟨_, rfl⟩
  | csum base count =>
    simp only [exec, execCsum]
    split <;> exact ⟨_, rfl⟩
  | cvfy base count =>
    simp only [exec, execCvfy]
    split <;> exact ⟨_, rfl⟩
  | crc len =>
    simp only [exec, execCrc]
    split <;> exact ⟨_, rfl⟩
  | crcd len =>
    simp only [exec, execCrcd]
    split_ifs <;> exact ⟨_, rfl⟩
  | send =>
    simp only [exec, execSend]
    split
    · exact ⟨_, rfl⟩
    · rename_i hbuilt
      obtain ⟨hbase, hcount, -⟩ := hs (by simpa using hbuilt)
      have hend := hwin s.txvar (by cases s.txvar <;> simp)
      have hle := layoutWords_le s.txvar
      rw [if_neg (by rw [hbase, hcount]; omega)]
      exact ⟨_, rfl⟩
  | build v =>
    simp only [exec, execBuild]
    split
    · exact ⟨_, rfl⟩
    · rw [if_neg (by have := layoutWords_le v; omega)]
      exact ⟨_, rfl⟩

theorem performInput_answers (inp : Input) (hsize : buffersSized s.cfg) (hwin : windowsFit s.cfg)
    (hs : frameDescribed s) : ∃ t, performInput inp s = .next t := by
  cases inp with
  | hostWrite a v =>
    simp only [performInput, hostWrite, deliverCommand]
    split
    · split
      · exact ⟨_, rfl⟩
      · split
        · exact exec_answers _ hsize hwin hs
        · exact ⟨_, rfl⟩
    · exact ⟨_, rfl⟩
  | hostRead a => exact ⟨_, rfl⟩
  | reset => exact ⟨_, rfl⟩

end

end Sys2Proof.Proofs
end

section
/-! SUPPORT. Runs of host actions: the induction over a list of actions, said once, and the run from reset. -/

namespace Sys2Proof.Proofs

open Sys2Proof.Machine Sys2Proof.Safety

/-- What every run from reset keeps. -/
structure RunInvariant (s : State) : Prop where
  parameters : configOk s.cfg
  described : frameDescribed s
  fatal : s.status.fatal = false
  log : logOfHandOvers s.cfg s.txlog = true

theorem runInvariant_reset : RunInvariant State.reset where
  parameters := by decide
  described := by
    intro hbuilt
    cases hbuilt
  fatal := rfl
  log := rfl

/-- Every action answers, and keeps the invariant. -/
theorem RunInvariant.performInput {s : State} (hs : RunInvariant s) (inp : Input) :
    ∃ t, performInput inp s = .next t ∧ RunInvariant t := by
  obtain ⟨hsize, hwin, hctrl⟩ := hs.parameters
  obtain ⟨t, ht⟩ := performInput_answers inp hsize hwin hs.described
  have heffect := performInput_frameEffect ht
  exact ⟨t, ht, {
    parameters := by rw [heffect.cfg_eq]; exact hs.parameters
    described := heffect.keeps_frameDescribed hs.described
    fatal := heffect.keeps_fatal_clear hs.fatal
    log := heffect.keeps_logOfHandOvers hctrl hs.described hs.log }⟩

/-- A property under which every action answers and which it keeps holds at the end of every run, which is reached. -/
theorem performAll_keeps {P : State → Prop} (hP : ∀ s, P s → ∀ inp, ∃ t, performInput inp s = .next t ∧ P t)
    (inputs : List Input) {s : State} (hs : P s) : ∃ t, performAll inputs s = .next t ∧ P t := by
  induction inputs generalizing s with
  | nil => exact ⟨s, rfl, hs⟩
  | cons inp rest ih =>
    obtain ⟨u, hu, hPu⟩ := hP s hs inp
    simpa only [performAll, hu] using ih hPu

/-- Settles O58: the reset state meets the invariant, every action answers and keeps it, and so every list of actions
runs to its end in a state that meets it. -/
theorem everyRunEndsInWholeHandOvers : Obligations.EveryRunEndsInWholeHandOvers := by
  intro inputs
  obtain ⟨t, hrun, ht⟩ := performAll_keeps (fun _ hs => hs.performInput) inputs runInvariant_reset
  exact ⟨t, hrun, ht.fatal, ht.log⟩

end Sys2Proof.Proofs
end

section
/-! SUPPORT. How the words `STATUS` (R32) and `ERRINFO` (R33) hold their fields, and the reset state (R39). -/

namespace Sys2Proof.Proofs

open Sys2Proof.Machine Sys2Proof.Safety

/-- A flag reads in its own bit and leaves every other bit clear. -/
theorem getLsbD_flagBit (b : Bool) {p : Nat} (hp : p < 32) (i : Nat) :
    (flagBit b p).getLsbD i = (decide (i = p) && b) := by
  by_cases h : i = p
  · simp [flagBit, getLsbD_place, h, hp, -BitVec.getLsbD_eq_getElem]
  · simp [flagBit, getLsbD_place_flag p (Ne.symm h), h]

/-- Every bit of `STATUS`, by its number. -/
theorem getLsbD_statusWord (f : Status) (i : Nat) :
    f.toWord.getLsbD i
      = (decide (i = 0) && f.perr || decide (i = 1) && f.ill || decide (i = 2) && f.eoper || decide (i = 3) && f.fatal
        || decide (i = 4) && f.built || decide (i = 5) && f.vok || decide (i = 8) && f.dmacv
        || decide (i = 9) && f.smacv || decide (i = 10) && f.sipv || decide (i = 11) && f.dipv) := by
  simp only [Status.toWord, BitVec.getLsbD_or]
  repeat rw [getLsbD_flagBit _ (by decide)]

/-- Settles O12: each clause reads bits of `getLsbD_statusWord`. -/
theorem statusWordHoldsTheFlags : Obligations.StatusWordHoldsTheFlags := by
  intro f
  simp only [getLsbD_statusWord]
  refine ⟨by simp, ?_⟩
  intro i hi
  simp only [List.mem_cons, List.not_mem_nil, or_false, not_or] at hi
  simp [hi]

/-- A placed field that fits the word reads back. -/
theorem extractLsb'_place {n p : Nat} (v : BitVec n) (hp : p + n ≤ 32) : (place v p).extractLsb' p n = v := by
  apply BitVec.eq_of_getLsbD_eq
  intro i hi
  rw [BitVec.getLsbD_extractLsb', getLsbD_place]
  simp [hi, show p + i < 32 by omega]

/-- A placed field reads 0 in every slice that does not meet it. -/
theorem extractLsb'_place_disjoint {n p q m : Nat} (v : BitVec n) (h : q + m ≤ p ∨ p + n ≤ q) :
    (place v p).extractLsb' q m = 0 := by
  apply BitVec.eq_of_getLsbD_eq
  intro i hi
  rw [BitVec.getLsbD_extractLsb', getLsbD_place_outside p v.isLt (by omega)]
  simp

/-- Every bit of `ERRINFO`, field by field. -/
theorem getLsbD_errinfoWord (e : ErrInfo) (i : Nat) :
    e.toWord.getLsbD i
      = ((place e.src.code 0).getLsbD i || (place e.field 4).getLsbD i
        || decide (i = 8) && decide (e.cause = .overlen) || decide (i = 31) && e.ev) := by
  have hcause : place (ParseCause.code e.cause) 8 = flagBit (decide (e.cause = .overlen)) 8 := by
    cases e.cause <;> rfl
  simp only [ErrInfo.toWord, BitVec.getLsbD_or, hcause]
  repeat rw [getLsbD_flagBit _ (by decide)]

/-- Settles O13: each clause keeps the one field that meets the bits it reads. -/
theorem errinfoWordHoldsTheRecord : Obligations.ErrinfoWordHoldsTheRecord := by
  intro e
  refine ⟨?src, ?field, ?cause, ?ev, ?others⟩
  case src =>
    simp [ErrInfo.toWord, flagBit, BitVec.extractLsb'_or, extractLsb'_place, extractLsb'_place_disjoint]
  case field =>
    simp [ErrInfo.toWord, flagBit, BitVec.extractLsb'_or, extractLsb'_place, extractLsb'_place_disjoint]
  case cause =>
    rw [getLsbD_errinfoWord, getLsbD_place_outside 0 e.src.code.isLt (by omega),
      getLsbD_place_outside 4 e.field.isLt (by omega)]
    simp
  case ev =>
    rw [getLsbD_errinfoWord, getLsbD_place_outside 0 e.src.code.isLt (by omega),
      getLsbD_place_outside 4 e.field.isLt (by omega)]
    simp
  case others =>
    intro i hi
    simp only [List.mem_cons, List.not_mem_nil, or_false, not_or] at hi
    rw [getLsbD_errinfoWord, getLsbD_place_outside 0 e.src.code.isLt (by omega),
      getLsbD_place_outside 4 e.field.isLt (by omega)]
    simp [hi]

/-- A word of an empty frame buffer is unmarked. -/
theorem fbMarked_of_fb_nil {s : State} (h : s.fb = []) (k : Nat) : fbMarked s k = false := by
  simp [fbMarked, Memory.marked, h]

/-- Settles O50: the registers are literals of `State.reset`, and both stores are empty. -/
theorem resetHoldsTheStatedValues : Obligations.ResetHoldsTheStatedValues :=
  ⟨rfl, rfl, rfl, rfl, fbMarked_of_fb_nil rfl, fun _ => rfl, rfl, rfl, rfl, rfl, rfl, rfl, rfl, rfl, rfl, rfl,
    rfl, rfl, rfl⟩

end Sys2Proof.Proofs
end

section
/-! SUPPORT. Which words decode to PMAC and PIP (R90 to R92): those that encode them. -/

namespace Sys2Proof.Proofs

/-- The command is PMAC or PIP. -/
def IsParse : Instr → Prop
  | .pmac _ | .pip _ => True
  | _ => False

/-- A word of format S (R90) is its opcode and its selector. -/
theorem toNat_of_formatS {w : Word} {op : BitVec 4} {sel : BitVec 2} (hop : opField w = op)
    (hzero : w.extractLsb' 2 26 = 0) (hsel : w.extractLsb' 0 2 = sel) : w.toNat = op.toNat * 2 ^ 28 + sel.toNat := by
  have hop' : (opField w).toNat = op.toNat := congrArg BitVec.toNat hop
  have hzero' : (w.extractLsb' 2 26).toNat = 0 := congrArg BitVec.toNat hzero
  have hsel' : (w.extractLsb' 0 2).toNat = sel.toNat := congrArg BitVec.toNat hsel
  simp only [opField, BitVec.extractLsb'_toNat, Nat.shiftRight_eq_div_pow] at hop' hzero' hsel'
  omega

theorem eq_encode_of_decodePmac {w : Word} {i : Instr} (hop : opField w = 2) (h : decodePmac w = .ok i) :
    w = encode i := by
  unfold decodePmac at h
  split_ifs at h with hzero hsel hsel <;> cases h
  · exact BitVec.eq_of_toNat_eq (toNat_of_formatS hop (not_not.mp hzero) hsel)
  · exact BitVec.eq_of_toNat_eq (toNat_of_formatS hop (not_not.mp hzero) hsel)

theorem eq_encode_of_decodePip {w : Word} {i : Instr} (hop : opField w = 3) (h : decodePip w = .ok i) :
    w = encode i := by
  unfold decodePip at h
  split_ifs at h with hzero hsel hsel <;> cases h
  · exact BitVec.eq_of_toNat_eq (toNat_of_formatS hop (not_not.mp hzero) hsel)
  · exact BitVec.eq_of_toNat_eq (toNat_of_formatS hop (not_not.mp hzero) hsel)

theorem not_isParse_of_decodeN {w : Word} {i j : Instr} (hi : ¬ IsParse i) (h : decodeN w i = .ok j) :
    ¬ IsParse j := by
  unfold decodeN at h
  split_ifs at h
  cases h
  exact hi

theorem not_isParse_of_decodeR {w : Word} {mk : Nat → Nat → Instr} {j : Instr} (hmk : ∀ b n, ¬ IsParse (mk b n))
    (h : decodeR w mk = .ok j) : ¬ IsParse j := by
  unfold decodeR at h
  split_ifs at h
  cases h
  exact hmk _ _

theorem not_isParse_of_decodeL {w : Word} {j : Instr} (h : decodeL w = .ok j) : ¬ IsParse j := by
  unfold decodeL at h
  split_ifs at h <;> cases h <;> exact id

theorem not_isParse_of_decodeV {w : Word} {j : Instr} (h : decodeV w = .ok j) : ¬ IsParse j := by
  unfold decodeV at h
  split_ifs at h
  cases h
  exact id

/-- The only word of a parse is the one that encodes it. -/
theorem eq_encode_of_decode_parse {w : Word} {i : Instr} (h : decode w = .ok i) (hi : IsParse i) : w = encode i := by
  unfold decode at h
  rcases ite_eq_iff.mp h with ⟨-, h⟩ | ⟨-, h⟩
  · exact absurd hi (not_isParse_of_decodeN id h)
  rcases ite_eq_iff.mp h with ⟨-, h⟩ | ⟨-, h⟩
  · exact absurd hi (not_isParse_of_decodeN id h)
  rcases ite_eq_iff.mp h with ⟨hop, h⟩ | ⟨-, h⟩
  · exact eq_encode_of_decodePmac hop h
  rcases ite_eq_iff.mp h with ⟨hop, h⟩ | ⟨-, h⟩
  · exact eq_encode_of_decodePip hop h
  rcases ite_eq_iff.mp h with ⟨-, h⟩ | ⟨-, h⟩
  · exact absurd hi (not_isParse_of_decodeR (fun _ _ => id) h)
  rcases ite_eq_iff.mp h with ⟨-, h⟩ | ⟨-, h⟩
  · exact absurd hi (not_isParse_of_decodeR (fun _ _ => id) h)
  rcases ite_eq_iff.mp h with ⟨-, h⟩ | ⟨-, h⟩
  · exact absurd hi (not_isParse_of_decodeL h)
  rcases ite_eq_iff.mp h with ⟨-, h⟩ | ⟨-, h⟩
  · exact absurd hi (not_isParse_of_decodeN id h)
  rcases ite_eq_iff.mp h with ⟨-, h⟩ | ⟨-, h⟩
  · exact absurd hi (not_isParse_of_decodeV h)
  cases h

end Sys2Proof.Proofs
end

section
/-! SUPPORT. What one action of the outside can do to the address registers, the buffers and `STRLEN`: one inductive
relation over the whole machine, from which the statements about them follow. -/

namespace Sys2Proof.Proofs

open Sys2Proof.Machine Sys2Proof.Safety

variable {s t : State}

/-- The two states agree on the address registers (R21). -/
structure SameAddresses (s t : State) : Prop where
  dmac : t.dmac = s.dmac
  smac : t.smac = s.smac
  sip : t.sip = s.sip
  dip : t.dip = s.dip

/-- The two states agree on the parameters, on `STR` and on `STRLEN` (R25, R26). -/
structure SameText (s t : State) : Prop where
  cfg : t.cfg = s.cfg
  str : t.str = s.str
  strlen : t.strlen = s.strlen

/-- The two states agree on the address registers, on the text and on the parameters. -/
structure SameSources (s t : State) : Prop extends SameAddresses s t, SameText s t

theorem SameSources.refl (s : State) : SameSources s s := ⟨⟨rfl, rfl, rfl, rfl⟩, ⟨rfl, rfl, rfl⟩⟩

theorem SameSources.trans {u : State} (h : SameSources s t) (h' : SameSources t u) : SameSources s u where
  dmac := h'.dmac.trans h.dmac
  smac := h'.smac.trans h.smac
  sip := h'.sip.trans h.sip
  dip := h'.dip.trans h.dip
  cfg := h'.cfg.trans h.cfg
  str := h'.str.trans h.str
  strlen := h'.strlen.trans h.strlen

/-- What one action of the outside does to the address registers, the buffers and `STRLEN`. -/
inductive ActionEffect (s : State) : Input → State → Prop where
  /-- No change: host reads, refusals, failed parses, and every command but the parses and BUILD. -/
  | same {inp : Input} {t : State} (h : SameSources s t) (hfb : t.fb = s.fb) : ActionEffect s inp t
  /-- A successful PMAC (R125). -/
  | parseMac (sel : MacReg) (m : Mac) :
      ActionEffect s (issue (.pmac sel)) (parseSucceeded sel.toAddr (writeMac sel m s))
  /-- A successful PIP (R126). -/
  | parseIp (sel : IpReg) (a : Word) :
      ActionEffect s (issue (.pip sel)) (parseSucceeded sel.toAddr (writeIp sel a s))
  /-- BUILD, whose layout lies in the buffer (R200, R201). -/
  | build {inp : Input} (v : FrameVariant) (hfit : layoutWords v ≤ s.cfg.fbWords) :
      ActionEffect s inp (finishBuild v (writeFbWords 0 (draftWords s) s))
  /-- A host write of `FB[k]` (R63). -/
  | frameWrite {inp : Input} (k : Nat) (v : Word) (hk : k < s.cfg.fbWords) : ActionEffect s inp (hostWriteFb k v s)
  /-- A host write of `STR[k]` (R63). -/
  | charWrite {inp : Input} (k : Nat) (c : Byte) (hk : k < s.cfg.strMax) : ActionEffect s inp (writeStr k c s)
  /-- A host write of `STRLEN` (R63). -/
  | lengthWrite {inp : Input} (v : Word) : ActionEffect s inp (writeStrlen v s)
  /-- The external reset (R290). -/
  | reset : ActionEffect s .reset (applyReset s)

/-! ## The commands and the host's actions -/

theorem ActionEffect.refused (inp : Input) (s : State) : ActionEffect s inp (takeAbnormal .operand s) :=
  .same ⟨⟨rfl, rfl, rfl, rfl⟩, ⟨rfl, rfl, rfl⟩⟩ rfl

theorem ActionEffect.parseFailed (inp : Input) (r : AddrReg) (f : Nat) (c : ParseCause) (s : State) :
    ActionEffect s inp (takeAbnormal (.parseError r f c) s) :=
  .same ⟨by constructor <;> simp, by constructor <;> simp⟩ (by simp)

theorem exec_actionEffect {w : Word} {i : Instr} (hw : decode w = .ok i) (h : exec i s = .next t) :
    ActionEffect s (.hostWrite 0x00 w) t := by
  cases i with
  | nop =>
    cases h
    exact .same (.refl s) rfl
  | clrerr =>
    cases h
    exact .same ⟨⟨rfl, rfl, rfl, rfl⟩, ⟨rfl, rfl, rfl⟩⟩ rfl
  | pmac sel =>
    rcases execPmac_cases h with ⟨out, -, rfl⟩ | ⟨e, -, rfl⟩
    · rw [eq_encode_of_decode_parse hw trivial]
      exact .parseMac sel (packBytes 48 out)
    · exact .parseFailed ..
  | pip sel =>
    rcases execPip_cases h with ⟨out, -, rfl⟩ | ⟨e, -, rfl⟩
    · rw [eq_encode_of_decode_parse hw trivial]
      exact .parseIp sel (packBytes 32 out)
    · exact .parseFailed ..
  | csum base count =>
    rcases execCsum_cases h with ⟨-, rfl⟩ | ⟨-, rfl⟩
    · exact .same ⟨⟨rfl, rfl, rfl, rfl⟩, ⟨rfl, rfl, rfl⟩⟩ rfl
    · exact .refused ..
  | cvfy base count =>
    rcases execCvfy_cases h with ⟨-, rfl⟩ | ⟨-, rfl⟩
    · exact .same ⟨⟨rfl, rfl, rfl, rfl⟩, ⟨rfl, rfl, rfl⟩⟩ rfl
    · exact .refused ..
  | crc len =>
    rcases execCrc_cases h with ⟨-, rfl⟩ | ⟨-, rfl⟩
    · exact .same ⟨⟨rfl, rfl, rfl, rfl⟩, ⟨rfl, rfl, rfl⟩⟩ rfl
    · exact .refused ..
  | crcd len =>
    rcases execCrcd_cases h with ⟨-, -, rfl⟩ | ⟨-, rfl⟩
    · exact .same ⟨⟨rfl, rfl, rfl, rfl⟩, ⟨rfl, rfl, rfl⟩⟩ rfl
    · exact .refused ..
  | send =>
    rcases execSend_cases h with ⟨-, -, rfl⟩ | ⟨-, rfl⟩
    · exact .same ⟨⟨rfl, rfl, rfl, rfl⟩, ⟨rfl, rfl, rfl⟩⟩ rfl
    · exact .refused ..
  | build v =>
    rcases execBuild_cases h with ⟨-, hfit, rfl⟩ | ⟨-, rfl⟩
    · rw [buildFrame_eq_finishBuild]
      exact .build v hfit
    · exact .refused ..

theorem storeRegister_actionEffect (inp : Input) (a : HostAddr) (v : Word) (s : State) :
    ActionEffect s inp (storeRegister a v s) := by
  rcases storeRegister_cases a v s with h | h | ⟨k, hk, -, h⟩ | ⟨k, hk, -, h⟩ | h <;> rw [h]
  · exact .lengthWrite v
  · exact .same ⟨⟨rfl, rfl, rfl, rfl⟩, ⟨rfl, rfl, rfl⟩⟩ rfl
  · exact .frameWrite k v hk
  · exact .charWrite k _ hk
  · exact .same (.refl s) rfl

/-- Everything one action of the outside can do to the address registers, the buffers and `STRLEN`. -/
theorem performInput_actionEffect {inp : Input} (h : performInput inp s = .next t) : ActionEffect s inp t := by
  rcases performInput_cases h with ⟨w, rfl, hw⟩ | ⟨a, v, -, -, rfl⟩ | ⟨a, -, rfl⟩ | ⟨rfl, rfl⟩
  · rcases deliverCommand_cases hw with ⟨-, rfl⟩ | ⟨-, i, hdec, hi⟩ | ⟨-, e, -, rfl⟩
    · exact .same (.refl _) rfl
    · exact exec_actionEffect hdec hi
    · exact .same ⟨⟨rfl, rfl, rfl, rfl⟩, ⟨rfl, rfl, rfl⟩⟩ rfl
  · exact storeRegister_actionEffect ..
  · exact .same ⟨⟨rfl, rfl, rfl, rfl⟩, ⟨rfl, rfl, rfl⟩⟩ rfl
  · exact .reset

/-! ## BUILD keeps the address registers and the text -/

theorem writeFbWords_sameSources (k : Nat) (ws : List Word) (s : State) : SameSources s (writeFbWords k ws s) := by
  rw [writeFbWords_eq]
  exact ⟨⟨rfl, rfl, rfl, rfl⟩, ⟨rfl, rfl, rfl⟩⟩

theorem storeIpChecksum_sameSources (s : State) : SameSources s (storeIpChecksum s) := by
  rw [storeIpChecksum_eq]
  exact ⟨⟨rfl, rfl, rfl, rfl⟩, ⟨rfl, rfl, rfl⟩⟩

theorem storeIcmpChecksum_sameSources (s : State) : SameSources s (storeIcmpChecksum s) := by
  rw [storeIcmpChecksum_eq]
  exact ⟨⟨rfl, rfl, rfl, rfl⟩, ⟨rfl, rfl, rfl⟩⟩

theorem storeChecksums_sameSources (s : State) : SameSources s (storeIcmpChecksum (storeIpChecksum s)) :=
  (storeIpChecksum_sameSources s).trans (storeIcmpChecksum_sameSources _)

theorem appendCrc_sameSources (s : State) : SameSources s (appendCrc s) := by
  rw [appendCrc_eq]
  exact ⟨⟨rfl, rfl, rfl, rfl⟩, ⟨rfl, rfl, rfl⟩⟩

theorem setDescriptor_sameSources (v : FrameVariant) (s : State) : SameSources s (setDescriptor v s) :=
  ⟨⟨rfl, rfl, rfl, rfl⟩, ⟨rfl, rfl, rfl⟩⟩

theorem finishBuild_sameSources (v : FrameVariant) (s : State) : SameSources s (finishBuild v s) := by
  unfold finishBuild
  cases hwCrc v with
  | true => exact (storeChecksums_sameSources s).trans (setDescriptor_sameSources ..)
  | false =>
    exact ((storeChecksums_sameSources s).trans (appendCrc_sameSources _)).trans (setDescriptor_sameSources ..)

theorem build_sameSources (v : FrameVariant) (s : State) :
    SameSources s (finishBuild v (writeFbWords 0 (draftWords s) s)) :=
  (writeFbWords_sameSources ..).trans (finishBuild_sameSources ..)

end Sys2Proof.Proofs
end

section
/-! SUPPORT. Who writes the address registers (R21). -/

namespace Sys2Proof.Proofs

open Sys2Proof.Machine Sys2Proof.Safety

/-- An action keeps the address registers unless it is a successful parse or the reset. -/
theorem ActionEffect.sameAddresses_or_parse {s t : State} {inp : Input} (h : ActionEffect s inp t) :
    SameAddresses s t
      ∨ (∃ sel m, inp = issue (.pmac sel) ∧ t = parseSucceeded sel.toAddr (writeMac sel m s))
      ∨ (∃ sel a, inp = issue (.pip sel) ∧ t = parseSucceeded sel.toAddr (writeIp sel a s))
      ∨ inp = .reset := by
  cases h with
  | same h => exact .inl h.toSameAddresses
  | parseMac sel m => exact .inr (.inl ⟨sel, m, rfl, rfl⟩)
  | parseIp sel a => exact .inr (.inr (.inl ⟨sel, a, rfl, rfl⟩))
  | build v => exact .inl (build_sameSources v s).toSameAddresses
  | frameWrite | charWrite | lengthWrite => exact .inl ⟨rfl, rfl, rfl, rfl⟩
  | reset => exact .inr (.inr (.inr rfl))

/-- Settles O47: what changes an address register is a successful parse into it, and its word is the one that encodes
that parse. -/
theorem onlyParsesWriteAddressRegisters : Obligations.OnlyParsesWriteAddressRegisters := by
  intro s t hstep hreset
  rcases step_cases hstep with ⟨-, rfl⟩ | ⟨inp, rest, hpending, hinp⟩
  · simp
  rw [hpending] at hreset ⊢
  rcases (performInput_actionEffect hinp).sameAddresses_or_parse with
    ha | ⟨sel, m, rfl, rfl⟩ | ⟨sel, a, rfl, rfl⟩ | rfl
  · exact ⟨absurd ha.dmac, absurd ha.smac, absurd ha.sip, absurd ha.dip⟩
  · cases sel <;> simp [issue, encode, encodeField, MacReg.toAddr, MacReg.code]
  · cases sel <;> simp [issue, encode, encodeField, IpReg.toAddr, IpReg.code]
  · exact absurd rfl hreset

end Sys2Proof.Proofs
end

section
/-! SUPPORT. The canonical form of the buffers (R24 to R26, R37), half by half: `FB`, then `STR` with `STRLEN`. -/

namespace Sys2Proof.Proofs

open Sys2Proof.Machine Sys2Proof.Safety

variable {s t : State}

/-- `FB`'s half of `buffersCanonical`. -/
structure FrameCanonical (s : State) : Prop where
  wf : Memory.wf s.fb
  below : ∀ x ∈ s.fb, x.1 < 4 * s.cfg.fbWords
  wholeWords : ∀ k < s.cfg.fbWords, ∀ j < 4, Memory.marked s.fb (4 * k + j) = fbMarked s k

/-- The half of `buffersCanonical` that `STR` and `STRLEN` have. -/
structure TextCanonical (s : State) : Prop where
  wf : Memory.wf s.str
  below : ∀ x ∈ s.str, x.1 < s.cfg.strMax
  length : s.strlen.toNat ≤ s.cfg.strMax

theorem buffersCanonical_iff (s : State) : buffersCanonical s ↔ FrameCanonical s ∧ TextCanonical s :=
  ⟨fun ⟨hfb, hstr, hfbBelow, hstrBelow, hmarks, hlen⟩ => ⟨⟨hfb, hfbBelow, hmarks⟩, ⟨hstr, hstrBelow, hlen⟩⟩,
    fun ⟨hf, ht⟩ => ⟨hf.wf, ht.wf, hf.below, ht.below, hf.wholeWords, ht.length⟩⟩

/-! ## The frame buffer -/

theorem FrameCanonical.congr (h : FrameCanonical s) (hfb : t.fb = s.fb) (hcfg : t.cfg = s.cfg) :
    FrameCanonical t where
  wf := by rw [hfb]; exact h.wf
  below := by rw [hfb, hcfg]; exact h.below
  wholeWords := by
    intro k hk j hj
    rw [hcfg] at hk
    rw [hfb, fbMarked_congr hfb]
    exact h.wholeWords k hk j hj

/-- A word write inside the buffer marks one whole word. -/
theorem FrameCanonical.writeFbWord (h : FrameCanonical s) {k : Nat} (v : Word) (hk : k < s.cfg.fbWords) :
    FrameCanonical (writeFbWord k v s) where
  wf := Memory.wf_insertWord h.wf k v
  below := Memory.insertWord_below v h.below hk
  wholeWords := by
    intro n hn j hj
    rw [writeFbWord_fb, Memory.marked_insertWord, fbMarked_writeFbWord, h.wholeWords n hn j hj,
      show (4 * n + j) / 4 = n by omega]

theorem FrameCanonical.writeFbWords (ws : List Word) {k : Nat} (h : FrameCanonical s)
    (hfit : k + ws.length ≤ s.cfg.fbWords) : FrameCanonical (writeFbWords k ws s) := by
  induction ws generalizing k s with
  | nil => exact h
  | cons w ws ih =>
    rw [List.length_cons] at hfit
    exact ih (h.writeFbWord w (by omega)) (by rw [writeFbWord_cfg]; omega)

theorem FrameCanonical.storeChecksums (h : FrameCanonical s) (hfit : 12 ≤ s.cfg.fbWords) :
    FrameCanonical (storeIcmpChecksum (storeIpChecksum s)) :=
  have hip : FrameCanonical (storeIpChecksum s) := h.writeFbWord _ (by omega)
  (hip.writeFbWord _ (by rw [storeIpChecksum_cfg]; omega)).congr rfl rfl

theorem FrameCanonical.appendCrc (h : FrameCanonical s) (hfit : 14 ≤ s.cfg.fbWords) : FrameCanonical (appendCrc s) :=
  have hpadded : FrameCanonical (Machine.writeFbWord 12 s.cfg.padword s) := h.writeFbWord _ (by omega)
  (hpadded.writeFbWord _ (by rw [writeFbWord_cfg]; omega)).congr rfl rfl

theorem FrameCanonical.setDescriptor (h : FrameCanonical s) (v : FrameVariant) : FrameCanonical (setDescriptor v s) :=
  h.congr rfl rfl

/-- BUILD writes inside its layout (R201). -/
theorem FrameCanonical.finishBuild (h : FrameCanonical s) {v : FrameVariant} (hfit : layoutWords v ≤ s.cfg.fbWords) :
    FrameCanonical (finishBuild v s) := by
  unfold layoutWords at hfit
  refine FrameCanonical.setDescriptor ?_ v
  by_cases hcrc : hwCrc v = true
  · rw [if_pos hcrc] at hfit ⊢
    exact h.storeChecksums hfit
  · rw [if_neg hcrc] at hfit ⊢
    exact (h.storeChecksums (by omega)).appendCrc hfit

theorem layoutWords_ge (v : FrameVariant) : 12 ≤ layoutWords v := by
  cases v <;> decide

theorem frameCanonical_of_fb_nil (h : s.fb = []) : FrameCanonical s where
  wf := by simp [h]
  below := by simp [h]
  wholeWords := by simp [fbMarked_of_fb_nil h, Memory.marked, h]

theorem ActionEffect.keeps_frameCanonical {inp : Input} (h : ActionEffect s inp t) (hs : FrameCanonical s) :
    FrameCanonical t := by
  cases h with
  | same h hfb => exact hs.congr hfb h.cfg
  | parseMac | parseIp => exact hs.congr (by simp) (by simp)
  | build v hfit =>
    have hdraft : FrameCanonical (writeFbWords 0 (draftWords s) s) :=
      hs.writeFbWords (draftWords s) ((layoutWords_ge v).trans hfit)
    exact hdraft.finishBuild (by rwa [writeFbWords_cfg])
  | frameWrite k v hk => exact (hs.writeFbWord v hk).congr rfl rfl
  | charWrite | lengthWrite => exact hs.congr rfl rfl
  | reset => exact frameCanonical_of_fb_nil rfl

/-! ## The string buffer -/

theorem TextCanonical.congr (h : TextCanonical s) (hst : SameText s t) : TextCanonical t where
  wf := by rw [hst.str]; exact h.wf
  below := by rw [hst.str, hst.cfg]; exact h.below
  length := by rw [hst.strlen, hst.cfg]; exact h.length

theorem TextCanonical.writeStr (h : TextCanonical s) {k : Nat} (c : Byte) (hk : k < s.cfg.strMax) :
    TextCanonical (writeStr k c s) where
  wf := Memory.wf_insert h.wf k c
  below := Memory.insert_below c h.below hk
  length := h.length

/-- The register's 7 bits hold at most the minimum that R63 stores. -/
theorem TextCanonical.writeStrlen (h : TextCanonical s) (v : Word) : TextCanonical (writeStrlen v s) where
  wf := h.wf
  below := h.below
  length := by
    rw [writeStrlen_strlen, writeStrlen_cfg, BitVec.toNat_ofNat]
    exact (Nat.mod_le _ _).trans (Nat.min_le_right _ _)

theorem textCanonical_of_empty (hstr : s.str = []) (hlen : s.strlen = 0) : TextCanonical s where
  wf := by simp [hstr]
  below := by simp [hstr]
  length := by simp [hlen]

theorem ActionEffect.keeps_textCanonical {inp : Input} (h : ActionEffect s inp t) (hs : TextCanonical s) :
    TextCanonical t := by
  cases h with
  | same h => exact hs.congr h.toSameText
  | parseMac | parseIp => exact hs.congr (by constructor <;> simp)
  | build v => exact hs.congr (build_sameSources v s).toSameText
  | frameWrite => exact hs.congr ⟨rfl, rfl, rfl⟩
  | charWrite k c hk => exact hs.writeStr c hk
  | lengthWrite v => exact hs.writeStrlen v
  | reset => exact textCanonical_of_empty rfl rfl

end Sys2Proof.Proofs
end

section
/-! SUPPORT. The invariant of the buffers, kept by every step, and the reset state that meets every invariant. -/

namespace Sys2Proof.Proofs

open Sys2Proof.Machine Sys2Proof.Safety

theorem performInput_keeps_buffersCanonical {s t : State} {inp : Input} (h : performInput inp s = .next t)
    (hs : buffersCanonical s) : buffersCanonical t := by
  have heffect := performInput_actionEffect h
  obtain ⟨hf, ht⟩ := (buffersCanonical_iff s).mp hs
  exact (buffersCanonical_iff t).mpr ⟨heffect.keeps_frameCanonical hf, heffect.keeps_textCanonical ht⟩

/-- Settles O52: taking an action off the queue changes no buffer, and every action keeps each half of the invariant. -/
theorem stepKeepsBuffersCanonical : Obligations.StepKeepsBuffersCanonical := by
  intro s t hs hstep
  rcases step_cases hstep with ⟨-, rfl⟩ | ⟨inp, rest, -, hinp⟩
  · exact hs
  · exact performInput_keeps_buffersCanonical hinp hs

theorem buffersCanonical_reset : buffersCanonical State.reset :=
  (buffersCanonical_iff _).mpr ⟨frameCanonical_of_fb_nil rfl, textCanonical_of_empty rfl rfl⟩

/-- Settles O57: the run invariant holds at reset, and the buffers are empty. -/
theorem resetMeetsTheInvariants : Obligations.ResetMeetsTheInvariants :=
  have hreset := runInvariant_reset
  ⟨hreset.parameters, buffersCanonical_reset, hreset.described, hreset.fatal, hreset.log⟩

end Sys2Proof.Proofs
end

section
/-! SUPPORT. The host's accesses, said once: which buffer element an address names (R61), what a write to each address
stores (R63), what a read of it answers (R64), and the step that performs it (R69). -/

namespace Sys2Proof.Proofs

open Sys2Proof.Machine

variable {s : State} {a : HostAddr} {k : Nat}

/-! ## The map of the buffers -/

theorem fbIndex_eq_some_iff {c : Config} :
    fbIndex c a = some k ↔ a.toNat = 0x10 + k ∧ k < 0x10 ∧ k < c.fbWords := by
  simp only [fbIndex, Option.ite_none_right_eq_some, Option.some.injEq]
  omega

theorem fbIndex_of_outside (c : Config) (ha : a.toNat < 0x10 ∨ 0x20 ≤ a.toNat) : fbIndex c a = none := by
  rw [fbIndex, if_neg (by omega)]

theorem strIndex_eq_some_iff {c : Config} : strIndex c a = some k ↔ a.toNat = 0x40 + k ∧ k < c.strMax := by
  simp only [strIndex, Option.ite_none_right_eq_some, Option.some.injEq]
  omega

theorem strIndex_of_below (c : Config) (ha : a.toNat < 0x40) : strIndex c a = none := by
  rw [strIndex, if_neg (by omega)]

/-! ## Host writes -/

/-- Every write but those of `CMD`, `STRLEN` and `IDSEED` goes to the buffers. -/
theorem storeRegister_of_buffer (v : Word) (s : State) (ha : a.toNat ≠ 0x03 ∧ a.toNat ≠ 0x04) :
    storeRegister a v s = writeBuffer a v s := by
  obtain ⟨hlen, hseed⟩ := ha
  have hlen' : a ≠ 0x03 := fun h => hlen (congrArg BitVec.toNat h)
  have hseed' : a ≠ 0x04 := fun h => hseed (congrArg BitVec.toNat h)
  rw [storeRegister, if_neg hlen', if_neg hseed']

/-- R63, the case 0x10 to 0x1F. -/
theorem storeRegister_of_fbIndex (v : Word) (h : fbIndex s.cfg a = some k) :
    storeRegister a v s = hostWriteFb k v s := by
  obtain ⟨ha, -, -⟩ := fbIndex_eq_some_iff.mp h
  rw [storeRegister_of_buffer v s (by omega), writeBuffer, h]

/-- R63, the case 0x40 to 0x7F. -/
theorem storeRegister_of_strIndex (v : Word) (h : strIndex s.cfg a = some k) :
    storeRegister a v s = writeStr k (v.setWidth 8) s := by
  obtain ⟨ha, -⟩ := strIndex_eq_some_iff.mp h
  rw [storeRegister_of_buffer v s (by omega), writeBuffer, fbIndex_of_outside s.cfg (by omega), h]

/-- R63, the case `otherwise`: an address that names no register the host may write. -/
theorem storeRegister_of_unnamed (v : Word) (ha : a.toNat ≠ 0x03 ∧ a.toNat ≠ 0x04) (hfb : fbIndex s.cfg a = none)
    (hstr : strIndex s.cfg a = none) : storeRegister a v s = s := by
  rw [storeRegister_of_buffer v s ha, writeBuffer, hfb, hstr]

/-! ## Host reads -/

/-- Above the registers a read looks at the buffers. -/
theorem hostReadValue_of_ge (s : State) (ha : 0x10 ≤ a.toNat) : hostReadValue a s = readBuffer a s := by
  unfold hostReadValue
  split
  case h_17 => rfl
  all_goals omega

theorem hostReadValue_of_fbIndex (h : fbIndex s.cfg a = some k) : hostReadValue a s = fbWord s k := by
  obtain ⟨ha, -, -⟩ := fbIndex_eq_some_iff.mp h
  rw [hostReadValue_of_ge s (by omega), readBuffer, h]

theorem hostReadValue_of_strIndex (h : strIndex s.cfg a = some k) :
    hostReadValue a s = (strChar s k).setWidth 32 := by
  obtain ⟨ha, -⟩ := strIndex_eq_some_iff.mp h
  rw [hostReadValue_of_ge s (by omega), readBuffer, fbIndex_of_outside s.cfg (by omega), h]

/-- R64: a reserved address reads 0. -/
theorem hostReadValue_of_reserved (s : State) (ha : 0x20 ≤ a.toNat ∧ a.toNat < 0x40) : hostReadValue a s = 0 := by
  rw [hostReadValue_of_ge s (by omega), readBuffer, fbIndex_of_outside s.cfg (by omega),
    strIndex_of_below s.cfg (by omega)]

/-! ## The steps -/

theorem step_hostWrite {v : Word} {rest : List Input} (h : s.pending = .hostWrite a v :: rest) (ha : a.toNat ≠ 0x00) :
    step s = .next (storeRegister a v { s with pending := rest }) := by
  have ha' : a ≠ 0x00 := fun h => ha (congrArg BitVec.toNat h)
  rw [step_of_pending h, performInput, hostWrite, if_neg ha']

theorem step_hostRead {rest : List Input} (h : s.pending = .hostRead a :: rest) :
    step s = .next { s with pending := rest, replies := s.replies ++ [{ addr := a, value := hostReadValue a s }] } :=
  step_of_pending h

theorem step_hostWrite_frameWord {v : Word} {rest : List Input} (hk : fbIndex s.cfg a = some k)
    (h : s.pending = .hostWrite a v :: rest) : step s = .next (hostWriteFb k v { s with pending := rest }) := by
  obtain ⟨ha, -, -⟩ := fbIndex_eq_some_iff.mp hk
  rw [step_hostWrite h (by omega), storeRegister_of_fbIndex (s := { s with pending := rest }) v hk]

theorem step_hostWrite_character {v : Word} {rest : List Input} (hk : strIndex s.cfg a = some k)
    (h : s.pending = .hostWrite a v :: rest) :
    step s = .next (writeStr k (v.setWidth 8) { s with pending := rest }) := by
  obtain ⟨ha, -⟩ := strIndex_eq_some_iff.mp hk
  rw [step_hostWrite h (by omega), storeRegister_of_strIndex (s := { s with pending := rest }) v hk]

end Sys2Proof.Proofs
end

section
/-! SUPPORT. The statements about the host's accesses (R61 to R64, R69). -/

namespace Sys2Proof.Proofs

open Sys2Proof.Machine

/-! ## The buffers -/

/-- Clearing `BUILT` touches no byte of the stream, so a host write reads back as a word write does. -/
theorem fbWord_hostWriteFb (k j : Nat) (v : Word) (s : State) :
    fbWord (hostWriteFb k v s) j = if j = k then v else fbWord s j :=
  (fbWord_congr rfl rfl j).trans (fbWord_writeFbWord k j v s)

theorem fbMarked_hostWriteFb (k j : Nat) (v : Word) (s : State) :
    fbMarked (hostWriteFb k v s) j = (decide (j = k) || fbMarked s j) :=
  (fbMarked_congr rfl j).trans (fbMarked_writeFbWord k j v s)

theorem frameByte_hostWriteFb (k i : Nat) (v : Word) (s : State) :
    frameByte (hostWriteFb k v s) i = if i / 4 = k then byteOf v (i % 4) else frameByte s i :=
  (frameByte_congr rfl rfl i).trans (frameByte_writeFbWord k i v s)

/-- The address of `FB[k]` (R61). -/
theorem fbIndex_ofNat {c : Config} {k : Nat} (hfb : c.fbWords ≤ 16) (hk : k < c.fbWords) :
    fbIndex c (BitVec.ofNat 7 (0x10 + k)) = some k := by
  rw [fbIndex_eq_some_iff, BitVec.toNat_ofNat]
  omega

/-- The address of `STR[k]` (R61). -/
theorem strIndex_ofNat {c : Config} {k : Nat} (hstr : c.strMax ≤ 64) (hk : k < c.strMax) :
    strIndex c (BitVec.ofNat 7 (0x40 + k)) = some k := by
  rw [strIndex_eq_some_iff, BitVec.toNat_ofNat]
  omega

theorem hostReadValue_hostWriteFb {s : State} {a : HostAddr} {k : Nat} (v : Word) (h : fbIndex s.cfg a = some k) :
    hostReadValue a (hostWriteFb k v s) = v := by
  rw [hostReadValue_of_fbIndex (s := hostWriteFb k v s) h, fbWord_hostWriteFb, if_pos rfl]

/-- Settles O7: the step is `hostWriteFb`, and the laws of a word write say what it leaves in the stream. -/
theorem hostWriteOfFrameWord : Obligations.HostWriteOfFrameWord := by
  intro s k v rest hfb hk hpending
  refine ⟨_, step_hostWrite_frameWord (fbIndex_ofNat hfb hk) hpending, rfl, ?value, ?mark, ?others⟩
  case value => simp [fbWord_hostWriteFb]
  case mark => simp [fbMarked_hostWriteFb]
  case others =>
    intro i hi
    constructor
    · rw [frameByte_hostWriteFb, if_neg hi]
      exact frameByte_congr rfl rfl i
    · rw [hostWriteFb_fb, Memory.marked_insertWord]
      simp [hi]

/-- Settles O8: the step is `writeStr`, and the laws of a character write say what it leaves in the store. -/
theorem hostWriteOfCharacter : Obligations.HostWriteOfCharacter := by
  intro s k v rest hstr hk hpending
  refine ⟨_, step_hostWrite_character (strIndex_ofNat hstr hk) hpending, rfl, ?value, ?mark, ?others⟩
  case value => simp [strChar_writeStr]
  case mark => simp [Memory.marked_insert]
  case others =>
    intro j hj
    constructor
    · rw [strChar_writeStr, if_neg hj]
      rfl
    · rw [writeStr_str, Memory.marked_insert]
      simp [hj]

/-- Settles O15: the write leaves the word that the read of the same address answers. -/
theorem frameWordReadsBack : Obligations.FrameWordReadsBack := by
  intro s k v rest hfb hk hpending
  have hindex := fbIndex_ofNat hfb hk
  refine ⟨_, _, step_hostWrite_frameWord hindex hpending, step_hostRead rfl, ?_⟩
  simp [hostReadValue_hostWriteFb, hindex]

/-! ## The registers -/

/-- Settles O9: `STRLEN` takes the minimum, which 7 bits hold, and `IDSEED` the low half. -/
theorem hostWriteOfLengthAndSeed : Obligations.HostWriteOfLengthAndSeed := by
  intro s v rest
  constructor
  · intro hstr hpending
    refine ⟨BitVec.ofNat 7 (min v.toNat s.cfg.strMax), ?_, step_hostWrite hpending (by decide)⟩
    rw [hstr, BitVec.toNat_ofNat]
    omega
  · intro hpending
    exact ⟨halfLo v, halfLo_toNat v, step_hostWrite hpending (by decide)⟩

/-- Settles O10: the addresses named are neither registers the host may write nor buffer elements. -/
theorem hostWriteElsewhereIsIgnored : Obligations.HostWriteElsewhereIsIgnored := by
  intro s a v rest _ _ ha hpending
  rw [step_hostWrite hpending (by omega),
    storeRegister_of_unnamed v (by omega) (fbIndex_of_outside _ (by omega)) (strIndex_of_below _ (by omega))]

theorem macHi_toNat (m : Mac) : (macHi m).toNat = m.toNat / 2 ^ 32 := by
  simp only [macHi, BitVec.toNat_setWidth, BitVec.extractLsb'_toNat, Nat.shiftRight_eq_div_pow]
  omega

theorem macLo_toNat (m : Mac) : (macLo m).toNat = m.toNat % 2 ^ 32 := by
  simp [macLo]

/-- Settles O11: a read only appends its answer; each register address is one arm of `hostReadValue`, and the others
are buffer elements or reserved. -/
theorem hostReadReturnsTheMap : Obligations.HostReadReturnsTheMap := by
  intro s a rest hpending hfb hstr
  refine ⟨_, step_hostRead hpending, ?zero, ?_, ?_, ?_, ?_, ?_, ?_, ?_, ?_, ?_, ?_, ?_, ?_, ?_, ?_, ?_, ?frame, ?text⟩
  case zero =>
    rintro (ha | ha)
    · simp [hostReadValue, ha]
    · exact hostReadValue_of_reserved s (by omega)
  case frame =>
    intro ha
    exact hostReadValue_of_fbIndex (fbIndex_eq_some_iff.mpr (by omega))
  case text =>
    intro ha
    have hindex : strIndex s.cfg a = some (a.toNat - 0x40) := strIndex_eq_some_iff.mpr (by omega)
    rw [hostReadValue_of_strIndex hindex, BitVec.toNat_setWidth_of_le (by decide)]
  all_goals
    intro ha
    simp [hostReadValue, ha, macHi_toNat, macLo_toNat, BitVec.toNat_setWidth_of_le, -BitVec.toNat_setWidth]

/-- Settles O14: each clause keeps the one field that meets the bits it reads, and the last one none. -/
theorem txdescPacksTheDescriptor : Obligations.TxdescPacksTheDescriptor := by
  intro s
  have hread : hostReadValue 0x0E s
      = place s.txcount 0 ||| place s.txbase 8 ||| place s.txbytes 16 ||| place s.txvar.code 24 := rfl
  rw [hread]
  refine ⟨?count, ?base, ?bytes, ?variant, ?others⟩
  case others =>
    intro i hi
    simp only [BitVec.getLsbD_or]
    rw [getLsbD_place_outside 0 s.txcount.isLt (by omega), getLsbD_place_outside 8 s.txbase.isLt (by omega),
      getLsbD_place_outside 16 s.txbytes.isLt (by omega), getLsbD_place_outside 24 s.txvar.code.isLt (by omega)]
    rfl
  all_goals simp [BitVec.extractLsb'_or, extractLsb'_place, extractLsb'_place_disjoint]

end Sys2Proof.Proofs
end

section
/-! SUPPORT. What stays while an action is performed: the actions after it and the parameters (R7, R69). -/

namespace Sys2Proof.Proofs

open Sys2Proof.Machine

@[simp] theorem writeFbWords_pending (k : Nat) (ws : List Word) (s : State) :
    (writeFbWords k ws s).pending = s.pending := by rw [writeFbWords_eq]

@[simp] theorem storeIpChecksum_pending (s : State) : (storeIpChecksum s).pending = s.pending := rfl
@[simp] theorem storeIcmpChecksum_pending (s : State) : (storeIcmpChecksum s).pending = s.pending := rfl
@[simp] theorem appendCrc_pending (s : State) : (appendCrc s).pending = s.pending := rfl

@[simp] theorem finishBuild_pending (v : FrameVariant) (s : State) : (finishBuild v s).pending = s.pending := by
  rw [finishBuild, setDescriptor_pending]
  split <;> simp

/-- No command looks at or changes what the outside is going to do. -/
theorem exec_pending {i : Instr} {s t : State} (h : exec i s = .next t) : t.pending = s.pending := by
  cases i with
  | nop | clrerr =>
    cases h
    rfl
  | pmac sel => rcases execPmac_cases h with ⟨_, -, rfl⟩ | ⟨_, -, rfl⟩ <;> simp
  | pip sel => rcases execPip_cases h with ⟨_, -, rfl⟩ | ⟨_, -, rfl⟩ <;> simp
  | csum base count => rcases execCsum_cases h with ⟨-, rfl⟩ | ⟨-, rfl⟩ <;> rfl
  | cvfy base count => rcases execCvfy_cases h with ⟨-, rfl⟩ | ⟨-, rfl⟩ <;> rfl
  | crc len => rcases execCrc_cases h with ⟨-, rfl⟩ | ⟨-, rfl⟩ <;> rfl
  | crcd len => rcases execCrcd_cases h with ⟨-, -, rfl⟩ | ⟨-, rfl⟩ <;> rfl
  | send => rcases execSend_cases h with ⟨-, -, rfl⟩ | ⟨-, rfl⟩ <;> rfl
  | build v =>
    rcases execBuild_cases h with ⟨-, -, rfl⟩ | ⟨-, rfl⟩
    · simp [buildFrame_eq_finishBuild]
    · rfl

theorem storeRegister_pending (a : HostAddr) (v : Word) (s : State) :
    (storeRegister a v s).pending = s.pending := by
  rcases storeRegister_cases a v s with h | h | ⟨k, -, -, h⟩ | ⟨k, -, -, h⟩ | h <;> rw [h] <;> rfl

/-- Every action of the outside leaves the actions after it as they were. -/
theorem performInput_pending {inp : Input} {s t : State} (h : performInput inp s = .next t) :
    t.pending = s.pending := by
  rcases performInput_cases h with ⟨w, -, hw⟩ | ⟨a, v, -, -, rfl⟩ | ⟨a, -, rfl⟩ | ⟨-, rfl⟩
  · rcases deliverCommand_cases hw with ⟨-, rfl⟩ | ⟨-, i, -, hi⟩ | ⟨-, e, -, rfl⟩
    · rfl
    · exact exec_pending hi
    · rfl
  · exact storeRegister_pending a v s
  · rfl
  · rfl

/-- Settles O49: a step takes the first action off the queue, and the action leaves the rest and the parameters. -/
theorem stepTakesActionsInOrder : Obligations.StepTakesActionsInOrder := by
  intro s t hstep
  rcases step_cases hstep with ⟨hempty, rfl⟩ | ⟨inp, rest, hpending, hinp⟩
  · simp [hempty]
  · rw [hpending]
    exact ⟨performInput_pending hinp, (performInput_frameEffect hinp).cfg_eq⟩

end Sys2Proof.Proofs
end

section
/-! SUPPORT. The formats of R90 as words: how the fields of a command word read back, and that a word with zeros in the
unused bits is the word of its fields. -/

namespace Sys2Proof.Proofs

open Sys2Proof.Machine

/-- An encoded field is its value, cut to the field's width, in its place. -/
theorem encodeField_eq_place (value width low : Nat) :
    encodeField value width low = place (BitVec.ofNat width value) low := by
  rw [encodeField, place]
  congr 1
  exact BitVec.eq_of_toNat_eq (by simp)

/-! ## Format R -/

/-- The word of format R (R90). -/
def formatR (op base : BitVec 4) (count : BitVec 5) : Word := place op 28 ||| place base 8 ||| place count 0

section
variable (op base : BitVec 4) (count : BitVec 5)

@[simp] theorem opField_formatR : opField (formatR op base count) = op := by
  simp [opField, formatR, BitVec.extractLsb'_or, extractLsb'_place, extractLsb'_place_disjoint]
@[simp] theorem formatR_high_zeros : (formatR op base count).extractLsb' 12 16 = 0 := by
  simp [formatR, BitVec.extractLsb'_or, extractLsb'_place_disjoint]
@[simp] theorem formatR_base : (formatR op base count).extractLsb' 8 4 = base := by
  simp [formatR, BitVec.extractLsb'_or, extractLsb'_place, extractLsb'_place_disjoint]
@[simp] theorem formatR_low_zeros : (formatR op base count).extractLsb' 5 3 = 0 := by
  simp [formatR, BitVec.extractLsb'_or, extractLsb'_place_disjoint]
@[simp] theorem formatR_count : (formatR op base count).extractLsb' 0 5 = count := by
  simp [formatR, BitVec.extractLsb'_or, extractLsb'_place, extractLsb'_place_disjoint]

theorem decodeR_formatR (mk : Nat → Nat → Instr) :
    decodeR (formatR op base count) mk = .ok (mk base.toNat count.toNat) := by
  simp [decodeR]

end

/-- The five fields of format R are the whole word. -/
theorem eq_of_fieldsR {w u : Word} (hop : opField w = opField u) (hhigh : w.extractLsb' 12 16 = u.extractLsb' 12 16)
    (hbase : w.extractLsb' 8 4 = u.extractLsb' 8 4) (hlow : w.extractLsb' 5 3 = u.extractLsb' 5 3)
    (hcount : w.extractLsb' 0 5 = u.extractLsb' 0 5) : w = u := by
  simp only [opField, ← BitVec.toNat_inj, BitVec.extractLsb'_toNat, Nat.shiftRight_eq_div_pow] at *
  omega

theorem eq_formatR {w : Word} {op : BitVec 4} (hop : opField w = op) (hhigh : w.extractLsb' 12 16 = 0)
    (hlow : w.extractLsb' 5 3 = 0) : w = formatR op (w.extractLsb' 8 4) (w.extractLsb' 0 5) :=
  eq_of_fieldsR (by simp [hop]) (by simp [hhigh]) (by simp) (by simp [hlow]) (by simp)

/-! ## Format L -/

/-- The word of format L (R90). -/
def formatL (op : BitVec 4) (d : BitVec 1) (len : BitVec 7) : Word := place op 28 ||| place d 8 ||| place len 0

section
variable (op : BitVec 4) (d : BitVec 1) (len : BitVec 7)

@[simp] theorem opField_formatL : opField (formatL op d len) = op := by
  simp [opField, formatL, BitVec.extractLsb'_or, extractLsb'_place, extractLsb'_place_disjoint]
@[simp] theorem formatL_high_zeros : (formatL op d len).extractLsb' 9 19 = 0 := by
  simp [formatL, BitVec.extractLsb'_or, extractLsb'_place_disjoint]
@[simp] theorem formatL_d : (formatL op d len).extractLsb' 8 1 = d := by
  simp [formatL, BitVec.extractLsb'_or, extractLsb'_place, extractLsb'_place_disjoint]
@[simp] theorem formatL_low_zero : (formatL op d len).extractLsb' 7 1 = 0 := by
  simp [formatL, BitVec.extractLsb'_or, extractLsb'_place_disjoint]
@[simp] theorem formatL_len : (formatL op d len).extractLsb' 0 7 = len := by
  simp [formatL, BitVec.extractLsb'_or, extractLsb'_place, extractLsb'_place_disjoint]

theorem decodeL_formatL :
    decodeL (formatL op d len) = .ok (if d = 0 then .crc len.toNat else .crcd len.toNat) := by
  simp only [decodeL, formatL_high_zeros, formatL_low_zero, formatL_d, formatL_len, and_self, if_true]
  split_ifs <;> rfl

end

/-- The five fields of format L are the whole word. -/
theorem eq_of_fieldsL {w u : Word} (hop : opField w = opField u) (hhigh : w.extractLsb' 9 19 = u.extractLsb' 9 19)
    (hd : w.extractLsb' 8 1 = u.extractLsb' 8 1) (hlow : w.extractLsb' 7 1 = u.extractLsb' 7 1)
    (hlen : w.extractLsb' 0 7 = u.extractLsb' 0 7) : w = u := by
  simp only [opField, ← BitVec.toNat_inj, BitVec.extractLsb'_toNat, Nat.shiftRight_eq_div_pow] at *
  omega

theorem eq_formatL {w : Word} {op : BitVec 4} (hop : opField w = op) (hhigh : w.extractLsb' 9 19 = 0)
    (hlow : w.extractLsb' 7 1 = 0) : w = formatL op (w.extractLsb' 8 1) (w.extractLsb' 0 7) :=
  eq_of_fieldsL (by simp [hop]) (by simp [hhigh]) (by simp) (by simp [hlow]) (by simp)

/-! ## The encoder -/

theorem encode_csum (base count : Nat) :
    encode (.csum base count) = formatR 4 (BitVec.ofNat 4 base) (BitVec.ofNat 5 count) := by
  simp only [encode, encodeField_eq_place]
  rfl

theorem encode_cvfy (base count : Nat) :
    encode (.cvfy base count) = formatR 5 (BitVec.ofNat 4 base) (BitVec.ofNat 5 count) := by
  simp only [encode, encodeField_eq_place]
  rfl

theorem encode_crc (len : Nat) : encode (.crc len) = formatL 6 0 (BitVec.ofNat 7 len) := by
  simp only [encode, encodeField_eq_place]
  rfl

theorem encode_crcd (len : Nat) : encode (.crcd len) = formatL 6 1 (BitVec.ofNat 7 len) := by
  simp only [encode, encodeField_eq_place]
  rfl

end Sys2Proof.Proofs
end

section
/-! SUPPORT. Decoding and encoding are inverse to each other (R90 to R92). -/

namespace Sys2Proof.Proofs

open Sys2Proof.Machine

/-! ## Decoding an encoded command -/

theorem decode_formatR_csum (base : BitVec 4) (count : BitVec 5) :
    decode (formatR 4 base count) = .ok (.csum base.toNat count.toNat) := by
  simp [decode, decodeR_formatR]

theorem decode_formatR_cvfy (base : BitVec 4) (count : BitVec 5) :
    decode (formatR 5 base count) = .ok (.cvfy base.toNat count.toNat) := by
  simp [decode, decodeR_formatR]

theorem decode_formatL (d : BitVec 1) (len : BitVec 7) :
    decode (formatL 6 d len) = .ok (if d = 0 then .crc len.toNat else .crcd len.toNat) := by
  simp [decode, decodeL_formatL]

/-- Settles O1: the commands without numbers are finitely many words, and the fields of the others read back. -/
theorem decodeOfEncode : Obligations.DecodeOfEncode := by
  intro i hwf
  cases i with
  | nop | clrerr | send => decide
  | pmac sel | pip sel => cases sel <;> decide
  | build variant => cases variant <;> decide
  | csum base count =>
    obtain ⟨hbase, hcount⟩ : base < 16 ∧ count < 32 := by simpa [Instr.wellFormed, baseFits, countFits] using hwf
    rw [encode_csum, decode_formatR_csum, BitVec.toNat_ofNat, BitVec.toNat_ofNat, Nat.mod_eq_of_lt hbase,
      Nat.mod_eq_of_lt hcount]
  | cvfy base count =>
    obtain ⟨hbase, hcount⟩ : base < 16 ∧ count < 32 := by simpa [Instr.wellFormed, baseFits, countFits] using hwf
    rw [encode_cvfy, decode_formatR_cvfy, BitVec.toNat_ofNat, BitVec.toNat_ofNat, Nat.mod_eq_of_lt hbase,
      Nat.mod_eq_of_lt hcount]
  | crc len =>
    have hlen : len < 128 := by simpa [Instr.wellFormed, lenFits] using hwf
    rw [encode_crc, decode_formatL, if_pos rfl, BitVec.toNat_ofNat, Nat.mod_eq_of_lt hlen]
  | crcd len =>
    have hlen : len < 128 := by simpa [Instr.wellFormed, lenFits] using hwf
    rw [encode_crcd, decode_formatL, if_neg (by decide), BitVec.toNat_ofNat, Nat.mod_eq_of_lt hlen]

/-- Settles O6: each word is the encoding of its well-formed command. -/
theorem writtenOutWordsDecode : Obligations.WrittenOutWordsDecode :=
  ⟨decodeOfEncode .nop rfl, decodeOfEncode .clrerr rfl, decodeOfEncode (.pmac .smac) rfl,
    decodeOfEncode (.pip .dip) rfl, decodeOfEncode (.csum 15 2) rfl, decodeOfEncode (.cvfy 4 5) rfl,
    decodeOfEncode (.crc 127) rfl, decodeOfEncode (.crcd 20) rfl, decodeOfEncode .send rfl,
    decodeOfEncode (.build .hs) rfl⟩

/-! ## Encoding a decoded word, format by format -/

section
variable {w : Word} {i j : Instr}

theorem baseFits_toNat (base : BitVec 4) : baseFits base.toNat = true := decide_eq_true base.isLt
theorem countFits_toNat (count : BitVec 5) : countFits count.toNat = true := decide_eq_true count.isLt
theorem lenFits_toNat (len : BitVec 7) : lenFits len.toNat = true := decide_eq_true len.isLt

/-- A word of format N (R90) is its opcode. -/
theorem toNat_of_formatN {op : BitVec 4} (hop : opField w = op) (hzero : w.extractLsb' 0 28 = 0) :
    w.toNat = op.toNat * 2 ^ 28 := by
  have hop' : (opField w).toNat = op.toNat := congrArg BitVec.toNat hop
  have hzero' : (w.extractLsb' 0 28).toNat = 0 := congrArg BitVec.toNat hzero
  simp only [opField, BitVec.extractLsb'_toNat, Nat.shiftRight_eq_div_pow] at hop' hzero'
  omega

theorem encode_of_decodeN {op : BitVec 4} (hop : opField w = op) (hword : (encode i).toNat = op.toNat * 2 ^ 28)
    (hwf : i.wellFormed = true) (h : decodeN w i = .ok j) : encode j = w ∧ j.wellFormed = true := by
  unfold decodeN at h
  split_ifs at h with hzero
  cases h
  exact ⟨BitVec.eq_of_toNat_eq (hword.trans (toNat_of_formatN hop hzero).symm), hwf⟩

theorem wellFormed_of_decodePmac (h : decodePmac w = .ok j) : j.wellFormed = true := by
  unfold decodePmac at h
  split_ifs at h <;> cases h <;> rfl

theorem wellFormed_of_decodePip (h : decodePip w = .ok j) : j.wellFormed = true := by
  unfold decodePip at h
  split_ifs at h <;> cases h <;> rfl

theorem encode_of_decodeR {op : BitVec 4} {mk : Nat → Nat → Instr} (hop : opField w = op)
    (hword : ∀ b n, encode (mk b n) = formatR op (BitVec.ofNat 4 b) (BitVec.ofNat 5 n))
    (hwf : ∀ b n, (mk b n).wellFormed = (baseFits b && countFits n)) (h : decodeR w mk = .ok j) :
    encode j = w ∧ j.wellFormed = true := by
  unfold decodeR at h
  split_ifs at h with hzeros
  obtain ⟨hhigh, hlow⟩ := hzeros
  cases h
  constructor
  · rw [hword, BitVec.ofNat_toNat, BitVec.ofNat_toNat, BitVec.setWidth_eq, BitVec.setWidth_eq]
    exact (eq_formatR hop hhigh hlow).symm
  · rw [hwf, baseFits_toNat, countFits_toNat, Bool.and_self]

theorem encode_of_decodeL (hop : opField w = 6) (h : decodeL w = .ok j) : encode j = w ∧ j.wellFormed = true := by
  unfold decodeL at h
  split_ifs at h with hzeros hd
  all_goals
    obtain ⟨hhigh, hlow⟩ := hzeros
    have hw := eq_formatL hop hhigh hlow
    cases h
    refine ⟨?_, lenFits_toNat _⟩
  · rw [encode_crc, BitVec.ofNat_toNat, BitVec.setWidth_eq, ← hd]
    exact hw.symm
  · have hd' : w.extractLsb' 8 1 = 1 := (BitVec.eq_zero_or_eq_one _).resolve_left hd
    rw [encode_crcd, BitVec.ofNat_toNat, BitVec.setWidth_eq, ← hd']
    exact hw.symm

/-- The word of a BUILD whose variant is read from two bits (R105). -/
theorem encode_build_ofCode_toNat :
    ∀ c : BitVec 2, (encode (.build (FrameVariant.ofCode c))).toNat = (8 : BitVec 4).toNat * 2 ^ 28 + c.toNat := by
  decide

theorem encode_of_decodeV (hop : opField w = 8) (h : decodeV w = .ok j) : encode j = w ∧ j.wellFormed = true := by
  unfold decodeV at h
  split_ifs at h with hzero
  cases h
  exact ⟨BitVec.eq_of_toNat_eq ((encode_build_ofCode_toNat _).trans (toNat_of_formatS hop hzero rfl).symm), rfl⟩

end

/-- Settles O2: each opcode has one format, and the fields of a format are the whole word. -/
theorem encodeOfDecode : Obligations.EncodeOfDecode := by
  intro w i h
  unfold decode at h
  split_ifs at h with hnop hclrerr hpmac hpip hcsum hcvfy hcrc hsend hbuild
  · exact encode_of_decodeN hnop (by decide) rfl h
  · exact encode_of_decodeN hclrerr (by decide) rfl h
  · exact ⟨(eq_encode_of_decodePmac hpmac h).symm, wellFormed_of_decodePmac h⟩
  · exact ⟨(eq_encode_of_decodePip hpip h).symm, wellFormed_of_decodePip h⟩
  · exact encode_of_decodeR hcsum encode_csum (fun _ _ => rfl) h
  · exact encode_of_decodeR hcvfy encode_cvfy (fun _ _ => rfl) h
  · exact encode_of_decodeL hcrc h
  · exact encode_of_decodeN hsend (by decide) rfl h
  · exact encode_of_decodeV hbuild h

end Sys2Proof.Proofs
end

section
/-! SUPPORT. The decoder is the opcode map (R92): a word matches a row exactly when it decodes to a command of the row,
and the write of `CMD` that follows from it (R97). -/

namespace Sys2Proof.Proofs

open Sys2Proof.Machine

/-! ## From a matched row to the command -/

/-- A matched word agrees with the pattern in every slice, as far as the mask looks. -/
theorem extractLsb'_of_match {w mask pattern : Word} (h : w &&& mask = pattern) (p n : Nat) :
    w.extractLsb' p n &&& mask.extractLsb' p n = pattern.extractLsb' p n := by
  rw [← h, BitVec.extractLsb'_and]

/-- A matched word has the pattern's bits in every slice the mask covers. -/
theorem extractLsb'_eq_of_match {w mask pattern : Word} (h : w &&& mask = pattern) {p n : Nat}
    (hmask : mask.extractLsb' p n = BitVec.allOnes n) : w.extractLsb' p n = pattern.extractLsb' p n := by
  rw [← extractLsb'_of_match h, hmask, BitVec.and_allOnes]

section
variable {w : Word}

/-- A word that matches a row of format N is the row's pattern. -/
theorem eq_of_match_formatN {pattern : Word} (h : w &&& 0xFFFFFFFF = pattern) : w = pattern := by
  simpa using extractLsb'_eq_of_match h (p := 0) (n := 32) (by decide)

theorem decode_of_match_pmac (h : w &&& 0xFFFFFFFE = 0x20000000) : ∃ sel, decode w = .ok (.pmac sel) := by
  have hop : opField w = 2 := extractLsb'_eq_of_match h (by decide)
  have hzero : w.extractLsb' 2 26 = 0 := extractLsb'_eq_of_match h (by decide)
  have hsel : w.extractLsb' 0 2 = 0 ∨ w.extractLsb' 0 2 = 1 :=
    (by decide : ∀ c : BitVec 2, c &&& 2 = 0 → c = 0 ∨ c = 1) _ (extractLsb'_of_match h 0 2)
  rcases hsel with hsel | hsel
  · exact ⟨.dmac, by simp [decode, hop, decodePmac, hzero, hsel]⟩
  · exact ⟨.smac, by simp [decode, hop, decodePmac, hzero, hsel]⟩

theorem decode_of_match_pip (h : w &&& 0xFFFFFFFE = 0x30000002) : ∃ sel, decode w = .ok (.pip sel) := by
  have hop : opField w = 3 := extractLsb'_eq_of_match h (by decide)
  have hzero : w.extractLsb' 2 26 = 0 := extractLsb'_eq_of_match h (by decide)
  have hsel : w.extractLsb' 0 2 = 2 ∨ w.extractLsb' 0 2 = 3 :=
    (by decide : ∀ c : BitVec 2, c &&& 2 = 2 → c = 2 ∨ c = 3) _ (extractLsb'_of_match h 0 2)
  rcases hsel with hsel | hsel
  · exact ⟨.sip, by simp [decode, hop, decodePip, hzero, hsel]⟩
  · exact ⟨.dip, by simp [decode, hop, decodePip, hzero, hsel]⟩

/-- The rows of format R differ in the opcode only. -/
theorem eq_formatR_of_match {pattern : Word} (h : w &&& 0xFFFFF0E0 = pattern)
    (hhigh : pattern.extractLsb' 12 16 = 0) (hlow : pattern.extractLsb' 5 3 = 0) :
    ∃ base count, w = formatR (opField pattern) base count :=
  ⟨_, _, eq_formatR (extractLsb'_eq_of_match h (by decide)) ((extractLsb'_eq_of_match h (by decide)).trans hhigh)
    ((extractLsb'_eq_of_match h (by decide)).trans hlow)⟩

/-- The two rows of format L differ in the bit `D` only. -/
theorem eq_formatL_of_match {pattern : Word} (h : w &&& 0xFFFFFF80 = pattern)
    (hhigh : pattern.extractLsb' 9 19 = 0) (hlow : pattern.extractLsb' 7 1 = 0) :
    ∃ len, w = formatL (opField pattern) (pattern.extractLsb' 8 1) len := by
  have hd : w.extractLsb' 8 1 = pattern.extractLsb' 8 1 := extractLsb'_eq_of_match h (by decide)
  rw [← hd]
  exact ⟨_, eq_formatL (extractLsb'_eq_of_match h (by decide)) ((extractLsb'_eq_of_match h (by decide)).trans hhigh)
    ((extractLsb'_eq_of_match h (by decide)).trans hlow)⟩

theorem decode_of_match_build (h : w &&& 0xFFFFFFFC = 0x80000000) : ∃ v, decode w = .ok (.build v) := by
  have hop : opField w = 8 := extractLsb'_eq_of_match h (by decide)
  have hzero : w.extractLsb' 2 26 = 0 := extractLsb'_eq_of_match h (by decide)
  exact ⟨_, by simp only [decode, hop, decodeV, hzero]; rfl⟩

end

/-- A word that matches a row decodes to a command of that row. -/
theorem decode_of_match {r : OpcodeRow} (hr : r ∈ opcodeRows) {w : Word} (h : w &&& r.mask = r.pattern) :
    ∃ i, decode w = .ok i ∧ i.mnemonic = r.mnemonic := by
  simp only [opcodeRows, List.mem_cons, List.not_mem_nil, or_false] at hr
  rcases hr with rfl | rfl | rfl | rfl | rfl | rfl | rfl | rfl | rfl | rfl
  · rw [eq_of_match_formatN h]
    exact ⟨_, decodeOfEncode .nop rfl, rfl⟩
  · rw [eq_of_match_formatN h]
    exact ⟨_, decodeOfEncode .clrerr rfl, rfl⟩
  · obtain ⟨_, hdec⟩ := decode_of_match_pmac h
    exact ⟨_, hdec, rfl⟩
  · obtain ⟨_, hdec⟩ := decode_of_match_pip h
    exact ⟨_, hdec, rfl⟩
  · obtain ⟨_, _, rfl⟩ := eq_formatR_of_match h (by decide) (by decide)
    exact ⟨_, decode_formatR_csum .., rfl⟩
  · obtain ⟨_, _, rfl⟩ := eq_formatR_of_match h (by decide) (by decide)
    exact ⟨_, decode_formatR_cvfy .., rfl⟩
  · obtain ⟨_, rfl⟩ := eq_formatL_of_match h (by decide) (by decide)
    exact ⟨_, decode_formatL .., rfl⟩
  · obtain ⟨_, rfl⟩ := eq_formatL_of_match h (by decide) (by decide)
    exact ⟨_, decode_formatL .., rfl⟩
  · rw [eq_of_match_formatN h]
    exact ⟨_, decodeOfEncode .send rfl, rfl⟩
  · obtain ⟨_, hdec⟩ := decode_of_match_build h
    exact ⟨_, hdec, rfl⟩

/-! ## From the command to its row -/

theorem encodesItsRow (i : Instr) : Laws.EncodesItsRow.Statement i := by
  cases i with
  | nop => exact Laws.EncodesItsRow.nop
  | clrerr => exact Laws.EncodesItsRow.clrerr
  | pmac sel => exact Laws.EncodesItsRow.pmac sel
  | pip sel => exact Laws.EncodesItsRow.pip sel
  | csum base count => exact Laws.EncodesItsRow.csum base count
  | cvfy base count => exact Laws.EncodesItsRow.cvfy base count
  | crc len => exact Laws.EncodesItsRow.crc len
  | crcd len => exact Laws.EncodesItsRow.crcd len
  | send => exact Laws.EncodesItsRow.send
  | build variant => exact Laws.EncodesItsRow.build variant

/-- A word that decodes matches the row that bears the command's mnemonic. -/
theorem match_of_decode {w : Word} {i : Instr} (h : decode w = .ok i) :
    ∃ r ∈ opcodeRows, r.mnemonic = i.mnemonic ∧ w &&& r.mask = r.pattern := by
  obtain ⟨rfl, hwf⟩ := encodeOfDecode w i h
  obtain ⟨r, hr, hname, hmatch⟩ := encodesItsRow i hwf
  exact ⟨r, hr, hname, of_decide_eq_true hmatch⟩

/-- A mnemonic names one row. -/
theorem row_eq_of_mnemonic_eq : ∀ r ∈ opcodeRows, ∀ q ∈ opcodeRows, r.mnemonic = q.mnemonic → r = q := by decide

section
variable {w : Word}

theorem match_iff_decode {r : OpcodeRow} (hr : r ∈ opcodeRows) :
    w &&& r.mask = r.pattern ↔ ∃ i, decode w = .ok i ∧ i.mnemonic = r.mnemonic := by
  refine ⟨decode_of_match hr, ?_⟩
  rintro ⟨i, hdec, hname⟩
  obtain ⟨q, hq, hqname, hmatch⟩ := match_of_decode hdec
  obtain rfl := row_eq_of_mnemonic_eq q hq r hr (hqname.trans hname)
  exact hmatch

theorem no_match_iff_illegal : (∀ r ∈ opcodeRows, w &&& r.mask ≠ r.pattern) ↔ ∃ e, decode w = .error e := by
  constructor
  · intro hnone
    cases hdec : decode w with
    | error e => exact ⟨e, rfl⟩
    | ok i =>
      obtain ⟨r, hr, -, hmatch⟩ := match_of_decode hdec
      exact absurd hmatch (hnone r hr)
  · rintro ⟨e, hdec⟩ r hr hmatch
    obtain ⟨i, hi, -⟩ := decode_of_match hr hmatch
    cases hdec.symm.trans hi

/-- No word matches two rows: it decodes to one command, and a mnemonic names one row. -/
theorem row_eq_of_match {r q : OpcodeRow} (hr : r ∈ opcodeRows) (hq : q ∈ opcodeRows)
    (hmatch : w &&& r.mask = r.pattern) (hmatch' : w &&& q.mask = q.pattern) : r = q := by
  obtain ⟨i, hdec, hname⟩ := decode_of_match hr hmatch
  obtain ⟨j, hdec', hname'⟩ := decode_of_match hq hmatch'
  obtain rfl : i = j := Except.ok.inj (hdec.symm.trans hdec')
  exact row_eq_of_mnemonic_eq r hr q hq (hname.symm.trans hname')

end

/-- Settles O3: the rows are literals; a row's match is the decoder's answer, in both directions. -/
theorem decoderFollowsOpcodeMap : Obligations.DecoderFollowsOpcodeMap :=
  ⟨rfl, fun _ => ⟨fun _ hr => match_iff_decode hr, no_match_iff_illegal, fun _ hr _ hq => row_eq_of_match hr hq⟩⟩

/-! ## The write of `CMD` -/

section
variable {s : State} {w : Word} {rest : List Input}

theorem step_command (h : s.pending = .hostWrite 0x00 w :: rest) :
    step s = deliverCommand w { s with pending := rest } := step_of_pending h

theorem deliverCommand_of_fatal (w : Word) (h : s.status.fatal = true) : deliverCommand w s = .next s := if_pos h

theorem deliverCommand_of_decode {i : Instr} (h : s.status.fatal = false) (hdec : decode w = .ok i) :
    deliverCommand w s = exec i s := by
  simp [deliverCommand, h, hdec]

theorem deliverCommand_of_illegal {e : IllegalWord} (h : s.status.fatal = false) (hdec : decode w = .error e) :
    deliverCommand w s = .next (takeAbnormal .illegal s) := by
  simp [deliverCommand, h, hdec]

end

/-- Settles O5: the step delivers the word, and with `FATAL` clear the delivery is the command. -/
theorem stepRunsTheDecodedCommand : Obligations.StepRunsTheDecodedCommand := by
  intro s w rest i hpending hfatal hdec
  rw [step_command hpending]
  exact deliverCommand_of_decode hfatal hdec

/-- Settles O4: the delivery's three branches, read through the opcode map. -/
theorem commandWriteFollowsOpcodeMap : Obligations.CommandWriteFollowsOpcodeMap := by
  intro s w rest hpending
  refine ⟨?fatal, ?illegal, ?command⟩
  case fatal =>
    intro hfatal
    rw [step_command hpending]
    exact deliverCommand_of_fatal w hfatal
  case illegal =>
    intro hfatal hnone
    obtain ⟨e, hdec⟩ := no_match_iff_illegal.mp fun r hr => of_decide_eq_false (hnone r hr)
    rw [step_command hpending]
    exact deliverCommand_of_illegal hfatal hdec
  case command =>
    intro hfatal r hr hmatch
    have hmatch := of_decide_eq_true hmatch
    obtain ⟨i, hdec, hname⟩ := decode_of_match hr hmatch
    exact ⟨fun q hq hq' => row_eq_of_match hq hr (of_decide_eq_true hq') hmatch,
      i, hname, (encodeOfDecode w i hdec).1, stepRunsTheDecodedCommand s w rest i hpending hfatal hdec⟩

end Sys2Proof.Proofs
end

section
/-! SUPPORT. The macro `LDSTR` (R108): what its writes leave in the string buffer. -/

namespace Sys2Proof.Proofs

open Sys2Proof.Machine

/-- `STR[k..] <- cs`, in order: what the writes of `writeChars` do. -/
def writeText : Nat → List Byte → State → State
  | _, [], s => s
  | k, c :: cs, s => writeText (k + 1) cs (writeStr k c s)

theorem writeText_eq (k : Nat) (cs : List Byte) (s : State) :
    writeText k cs s = { s with str := (writeText k cs s).str } := by
  induction cs generalizing k s with
  | nil => rfl
  | cons c cs ih =>
    rw [writeText, ih]
    rfl

@[simp] theorem writeText_cfg (k : Nat) (cs : List Byte) (s : State) : (writeText k cs s).cfg = s.cfg := by
  rw [writeText_eq]

/-- Characters before the text stay. -/
theorem strChar_writeText_below {j k : Nat} (cs : List Byte) (s : State) (h : j < k) :
    strChar (writeText k cs s) j = strChar s j := by
  induction cs generalizing k s with
  | nil => rfl
  | cons c cs ih => rw [writeText, ih _ (by omega), strChar_writeStr, if_neg (by omega)]

/-- Characters of the text read back. -/
theorem strChar_writeText {j : Nat} (k : Nat) (cs : List Byte) (s : State) (h : j < cs.length) :
    strChar (writeText k cs s) (k + j) = cs[j] := by
  induction cs generalizing j k s with
  | nil => cases h
  | cons c cs ih =>
    rw [writeText]
    cases j with
    | zero => simp [strChar_writeText_below, strChar_writeStr]
    | succ j =>
      rw [show k + (j + 1) = k + 1 + j by omega, List.getElem_cons_succ]
      exact ih (k + 1) (writeStr k c s) (Nat.lt_of_succ_lt_succ h)

/-- One write of the expansion. -/
theorem performInput_wr_char {s : State} {k : Nat} (c : Byte) (hstr : s.cfg.strMax ≤ 64) (hk : k < s.cfg.strMax) :
    performInput (wr (0x40 + k) c.toNat) s = .next (writeStr k c s) := by
  have hindex := strIndex_ofNat hstr hk
  have ha : BitVec.ofNat 7 (0x40 + k) ≠ 0x00 := by
    obtain ⟨ha, -⟩ := strIndex_eq_some_iff.mp hindex
    intro h
    have hzero : (BitVec.ofNat 7 (0x40 + k)).toNat = 0 := congrArg BitVec.toNat h
    omega
  have hc : (BitVec.ofNat 32 c.toNat).setWidth 8 = c := BitVec.eq_of_toNat_eq (by simp)
  rw [wr, performInput, hostWrite, if_neg ha, storeRegister_of_strIndex _ hindex, hc]

/-- The writes of a text that fits the buffer, followed by further actions. -/
theorem performAll_writeChars {s : State} {k : Nat} {cs : List Byte} (rest : List Input) (hstr : s.cfg.strMax ≤ 64)
    (hfit : k + cs.length ≤ s.cfg.strMax) :
    performAll (writeChars k cs ++ rest) s = performAll rest (writeText k cs s) := by
  induction cs generalizing k s with
  | nil => rfl
  | cons c cs ih =>
    rw [List.length_cons] at hfit
    rw [writeChars, List.cons_append, performAll, performInput_wr_char c hstr (by omega)]
    exact ih hstr (by rw [writeStr_cfg]; omega)

theorem performAll_ldstr {s : State} {text : List Byte} (hstr : s.cfg.strMax ≤ 64) (hfit : text.length ≤ s.cfg.strMax) :
    performAll (ldstr text) s = .next (writeStrlen (BitVec.ofNat 32 text.length) (writeText 0 text s)) := by
  rw [ldstr, performAll_writeChars _ hstr (by omega)]
  rfl

/-- Settles O17: the characters read back, and `STRLEN` is their number. -/
theorem ldstrLoadsTheText : Obligations.LdstrLoadsTheText := by
  intro s text hlen hstr
  refine ⟨_, performAll_ldstr hstr.le (by omega), ?text, ?frame⟩
  case text =>
    have hcount : (writeStrlen (BitVec.ofNat 32 text.length) (writeText 0 text s)).strlen.toNat = text.length := by
      rw [writeStrlen_strlen, writeText_cfg, hstr, BitVec.toNat_ofNat, BitVec.toNat_ofNat]
      omega
    rw [parserText, hcount]
    refine List.ext_getElem (by simp) fun j _ hj => ?_
    rw [List.getElem_map, List.getElem_range]
    have hread := strChar_writeText 0 text s hj
    rw [Nat.zero_add] at hread
    exact hread
  case frame =>
    rw [writeText_eq]
    rfl

end Sys2Proof.Proofs
end

section
/-! SUPPORT. The control word's bits for every count that fits its field (R104, R216). -/

namespace Sys2Proof.Proofs

open Sys2Proof.Machine Sys2Proof.Safety

/-- The parameters with one word count for every variant: with them, `n` is the count of a variant. -/
def withWordCount (c : Config) (n : BitVec 5) : Config := { c with wcSS := n, wcSH := n, wcHS := n, wcHH := n }

theorem wordCount_withWordCount (c : Config) (n : BitVec 5) (v : FrameVariant) :
    wordCount (withWordCount c n) v = n := by
  cases v <;> rfl

section
variable {c : Config} {n : BitVec 5} (hc : controlFieldsDisjoint c)
include hc

theorem controlFieldsDisjoint_withWordCount (hn : n.toNat < 2 ^ c.ctrlWcWidth) :
    controlFieldsDisjoint (withWordCount c n) := by
  obtain ⟨hbelow, hdistinct, hoff, -⟩ := hc
  refine ⟨hbelow, hdistinct, hoff, fun v _ => ?_⟩
  rw [wordCount_withWordCount]
  exact hn

/-- Every count that fits its field decodes back (R104). -/
theorem controlCount_controlWord_of_fits (v : FrameVariant) (hn : n.toNat < 2 ^ c.ctrlWcWidth) :
    controlCount c (controlWord c v n) = n.toNat := by
  have h := controlCount_controlWord (controlFieldsDisjoint_withWordCount hc hn) v
  rw [wordCount_withWordCount] at h
  exact h

/-- Every bit of the control word, field by field. -/
theorem getLsbD_controlWord (v : FrameVariant) (n : BitVec 5) (i : Nat) :
    (controlWord c v n).getLsbD i
      = (decide (i = c.ctrlGoBit) || (place n c.ctrlWcShift).getLsbD i
        || decide (i = c.ctrlNohwcrcBit) && !hwCrc v || decide (i = c.ctrlNohwmacBit) && !hwMac v) := by
  obtain ⟨⟨hgo, hcrc, hmac, -⟩, -, -, -⟩ := hc
  have hword : controlWord c v n = flagBit true c.ctrlGoBit ||| place n c.ctrlWcShift
      ||| flagBit (!hwCrc v) c.ctrlNohwcrcBit ||| flagBit (!hwMac v) c.ctrlNohwmacBit := rfl
  simp only [hword, BitVec.getLsbD_or, getLsbD_flagBit _ hgo, getLsbD_flagBit _ hcrc, getLsbD_flagBit _ hmac,
    Bool.and_true]

end

theorem not_hwCrc_eq (v : FrameVariant) : (!hwCrc v) = decide (v = .ss ∨ v = .hs) := by
  cases v <;> rfl

theorem not_hwMac_eq (v : FrameVariant) : (!hwMac v) = decide (v = .ss ∨ v = .sh) := by
  cases v <;> rfl

/-- Settles O39: each clause keeps the one field that meets the bit it reads. -/
theorem controlWordHoldsItsFields : Obligations.ControlWordHoldsItsFields := by
  refine ⟨by decide, ?_⟩
  intro c v n hc hn
  have hcount : ∀ i, (i < c.ctrlWcShift ∨ c.ctrlWcShift + c.ctrlWcWidth ≤ i) →
      (place n c.ctrlWcShift).getLsbD i = false :=
    fun _ => getLsbD_place_outside c.ctrlWcShift hn
  have ⟨_, ⟨hgocrc, hgomac, hcrcmac⟩, hoff, _⟩ := hc
  refine ⟨controlCount_controlWord_of_fits hc v hn, ?go, ?nohwcrc, ?nohwmac, ?others⟩
  case go => simp [getLsbD_controlWord hc]
  case nohwcrc =>
    rw [getLsbD_controlWord hc, hcount _ (hoff _ (by simp)), ← not_hwCrc_eq]
    simp [hgocrc.symm, hcrcmac]
  case nohwmac =>
    rw [getLsbD_controlWord hc, hcount _ (hoff _ (by simp)), ← not_hwMac_eq]
    simp [hgomac.symm, hcrcmac.symm]
  case others =>
    intro i hgo hcrc hmac hi
    rw [getLsbD_controlWord hc, hcount i hi]
    simp [hgo, hcrc, hmac]

end Sys2Proof.Proofs
end

section
/-! SUPPORT. The digits and the value of a field (R121, R122): the run ends at the first character that is no digit. -/

namespace Sys2Proof.Proofs

open Sys2Proof.Machine

/-- Letters are digits of base 16 only. -/
theorem digitValue_eq_some_iff {base d : Nat} {c : Byte} :
    digitValue base c = some d ↔
      (0x30 ≤ c.toNat ∧ c.toNat ≤ 0x39 ∧ d = c.toNat - 0x30)
        ∨ (base = 16 ∧ 0x41 ≤ c.toNat ∧ c.toNat ≤ 0x46 ∧ d = c.toNat - 0x41 + 10)
        ∨ (base = 16 ∧ 0x61 ≤ c.toNat ∧ c.toNat ≤ 0x66 ∧ d = c.toNat - 0x61 + 10) := by
  simp only [digitValue]
  split_ifs with hdecimal hupper hlower
  · rw [Option.some.injEq]
    omega
  · rw [Option.some.injEq]
    omega
  · rw [Option.some.injEq]
    omega
  · simp only [false_iff]
    omega

/-- Settles O18. -/
theorem digitsOfBothBases : Obligations.DigitsOfBothBases := by
  intro c d
  exact ⟨by simp [digitValue_eq_some_iff], by simp [digitValue_eq_some_iff]⟩

theorem digitRun_cons_digit {base d : Nat} {c : Byte} (v : Nat) (t : List Byte) (h : digitValue base c = some d) :
    digitRun base v (c :: t) = digitRun base (v * base + d) t := by
  simp [digitRun, h]

theorem digitRun_cons_nondigit {base : Nat} {c : Byte} (v : Nat) (t : List Byte) (h : digitValue base c = none) :
    digitRun base v (c :: t) = v := by
  simp [digitRun, h]

/-- Text that does not start with a digit adds nothing to the run before it. -/
theorem digitRun_append {base : Nat} {rest : List Byte} (v : Nat) (t : List Byte)
    (hrest : ∀ c, rest.head? = some c → digitValue base c = none) :
    digitRun base v (t ++ rest) = digitRun base v t := by
  induction t generalizing v with
  | nil =>
    cases rest with
    | nil => rfl
    | cons c rest => exact digitRun_cons_nondigit v rest (hrest c rfl)
  | cons c t ih =>
    rw [List.cons_append]
    cases hc : digitValue base c with
    | none => rw [digitRun_cons_nondigit v _ hc, digitRun_cons_nondigit v _ hc]
    | some d => rw [digitRun_cons_digit v _ hc, digitRun_cons_digit v _ hc, ih]

/-- A run of nothing but digits is read to its end. -/
theorem digitRun_digits {base : Nat} {digits : List Byte} (v : Nat)
    (hdigits : ∀ c ∈ digits, (digitValue base c).isSome = true) :
    digitRun base v digits = digits.foldl (fun v c => v * base + (digitValue base c).getD 0) v := by
  induction digits generalizing v with
  | nil => rfl
  | cons c digits ih =>
    obtain ⟨hc, htail⟩ := List.forall_mem_cons.mp hdigits
    obtain ⟨d, hd⟩ := Option.isSome_iff_exists.mp hc
    rw [digitRun_cons_digit v _ hd, ih _ htail, List.foldl_cons, hd, Option.getD_some]

/-- Settles O19: the rest adds nothing to the run, and the run is the fold over its digits. -/
theorem fieldValueIsDigitRunModulo256 : Obligations.FieldValueIsDigitRunModulo256 := by
  intro base digits rest hdigits hrest
  rw [fieldValue, digitRun_append 0 digits hrest, digitRun_digits 0 hdigits, BitVec.toNat_ofNat]
  exact Nat.mod_mod _ _

/-- A separator that is no digit ends the field: its value is that of its token (R122). -/
theorem fieldValue_token {base : Nat} {sep : Byte} (t rest : List Byte) (hsep : digitValue base sep = none) :
    fieldValue base (t ++ sep :: rest) = fieldValue base t := by
  rw [fieldValue, fieldValue, digitRun_append 0 t (by simpa using hsep)]

end Sys2Proof.Proofs
end

section
/-! SUPPORT. The scan over tokens (R123, R124, R127), for every grammar whose separator is no digit. -/

namespace Sys2Proof.Proofs

open Sys2Proof.Machine Sys2Proof.Safety

/-! ## The separator search -/

theorem findSeparator_of_not_mem {sep : Byte} {t : List Byte} (h : sep ∉ t) : findSeparator sep t = none := by
  induction t with
  | nil => rfl
  | cons c t ih =>
    obtain ⟨hc, ht⟩ := List.ne_and_not_mem_of_not_mem_cons h
    simp [findSeparator, hc.symm, ih ht]

theorem findSeparator_token {sep : Byte} {t : List Byte} (rest : List Byte) (h : sep ∉ t) :
    findSeparator sep (t ++ sep :: rest) = some (t.length, rest) := by
  induction t with
  | nil => simp [findSeparator]
  | cons c t ih =>
    obtain ⟨hc, ht⟩ := List.ne_and_not_mem_of_not_mem_cons h
    simp [findSeparator, hc.symm, ih ht]

/-! ## One field that is not the last -/

section
variable {g : Grammar} {t : List Byte}

theorem scanFields_missingSep (later f : Nat) (h : g.sep ∉ t) :
    scanFields g (later + 1) f t = .error { field := f, cause := .missingSep } := by
  rw [scanFields, findSeparator_of_not_mem h]

theorem scanFields_overlen (later f : Nat) (rest : List Byte) (h : g.sep ∉ t) (hlen : g.maxTok < t.length) :
    scanFields g (later + 1) f (t ++ g.sep :: rest) = .error { field := f, cause := .overlen } := by
  rw [scanFields, findSeparator_token rest h]
  exact if_pos hlen

theorem scanFields_token (later f : Nat) (rest : List Byte) (hdigit : digitValue g.base g.sep = none)
    (ht : tokenOk g t) :
    scanFields g (later + 1) f (t ++ g.sep :: rest)
      = (scanFields g later (f + 1) rest).map (fieldValue g.base t :: ·) := by
  obtain ⟨hsep, hlen⟩ := ht
  rw [scanFields, findSeparator_token rest hsep, fieldValue_token t rest hdigit]
  simp only [if_neg (Nat.not_lt.mpr hlen)]
  cases scanFields g later (f + 1) rest <;> rfl

end

/-! ## Any number of legal tokens -/

theorem joinTokens_append_singleton (sep : Byte) (toks : List (List Byte)) (t last : List Byte) :
    joinTokens sep (toks ++ [t]) last = joinTokens sep toks (t ++ sep :: last) := by
  induction toks with
  | nil => rfl
  | cons u toks ih => rw [List.cons_append, joinTokens, joinTokens, ih]

section
variable {g : Grammar} {toks : List (List Byte)}

/-- The scan goes through legal tokens, collects their values and continues at the text after them. -/
theorem scanFields_joinTokens (later f : Nat) (last : List Byte) (hdigit : digitValue g.base g.sep = none)
    (htoks : ∀ t ∈ toks, tokenOk g t) :
    scanFields g (later + toks.length) f (joinTokens g.sep toks last)
      = (scanFields g later (f + toks.length) last).map (toks.map (fieldValue g.base) ++ ·) := by
  induction toks generalizing f with
  | nil =>
    simp only [joinTokens, List.length_nil, Nat.add_zero, List.map_nil, List.nil_append]
    cases scanFields g later f last <;> rfl
  | cons t toks ih =>
    obtain ⟨ht, htail⟩ := List.forall_mem_cons.mp htoks
    rw [joinTokens, List.length_cons, ← Nat.add_assoc, scanFields_token _ f _ hdigit ht, ih (f + 1) htail,
      show f + 1 + toks.length = f + (toks.length + 1) by omega]
    cases scanFields g later (f + (toks.length + 1)) last <;> rfl

theorem parseAddr_ok (last : List Byte) (hdigit : digitValue g.base g.sep = none) (htoks : ∀ t ∈ toks, tokenOk g t)
    (hcount : toks.length = g.laterFields) :
    parseAddr g (joinTokens g.sep toks last) = .ok ((toks ++ [last]).map (fieldValue g.base)) := by
  rw [parseAddr, ← hcount, ← Nat.zero_add toks.length, scanFields_joinTokens 0 0 last hdigit htoks, List.map_append]
  rfl

/-- A scan that stops before its last field stops for what follows the legal tokens. -/
theorem parseAddr_error {rest : List Byte} {cause : ParseCause} (hdigit : digitValue g.base g.sep = none)
    (htoks : ∀ t ∈ toks, tokenOk g t) (hcount : toks.length < g.laterFields)
    (hrest : ∀ later f, scanFields g (later + 1) f rest = .error { field := f, cause := cause }) :
    parseAddr g (joinTokens g.sep toks rest) = .error { field := toks.length, cause := cause } := by
  obtain ⟨later, hlater⟩ : ∃ later, g.laterFields = later + 1 + toks.length :=
    ⟨g.laterFields - 1 - toks.length, by omega⟩
  rw [parseAddr, hlater, scanFields_joinTokens (later + 1) 0 rest hdigit htoks, hrest, Nat.zero_add]
  rfl

theorem parseAddr_missingSep {bad : List Byte} (hdigit : digitValue g.base g.sep = none)
    (htoks : ∀ t ∈ toks, tokenOk g t) (hcount : toks.length < g.laterFields) (hbad : g.sep ∉ bad) :
    parseAddr g (joinTokens g.sep toks bad) = .error { field := toks.length, cause := .missingSep } :=
  parseAddr_error hdigit htoks hcount fun later f => scanFields_missingSep later f hbad

theorem parseAddr_overlen {bad : List Byte} (rest : List Byte) (hdigit : digitValue g.base g.sep = none)
    (htoks : ∀ t ∈ toks, tokenOk g t) (hcount : toks.length < g.laterFields) (hbad : g.sep ∉ bad)
    (hlen : g.maxTok < bad.length) :
    parseAddr g (joinTokens g.sep (toks ++ [bad]) rest) = .error { field := toks.length, cause := .overlen } := by
  rw [joinTokens_append_singleton]
  exact parseAddr_error hdigit htoks hcount fun later f => scanFields_overlen later f rest hbad hlen

end

/-- ':' is no hexadecimal digit. -/
theorem digitValue_macSep : digitValue macGrammar.base macGrammar.sep = none := rfl

/-- '.' is no decimal digit. -/
theorem digitValue_ipSep : digitValue ipGrammar.base ipGrammar.sep = none := rfl

end Sys2Proof.Proofs
end

section
/-! SUPPORT. Bytes packed into a register read back (R21, R125, R126). -/

namespace Sys2Proof.Proofs

open Sys2Proof.Machine

theorem packBytes_append_singleton (w : Nat) (bs : List Byte) (b : Byte) :
    packBytes w (bs ++ [b]) = (packBytes w bs <<< 8) ||| b.setWidth w := by
  rw [packBytes, List.foldl_append]
  rfl

/-- The byte packed last is the lowest. -/
theorem setWidth_pushByte {w : Nat} (x : BitVec w) (b : Byte) (hw : 8 ≤ w) :
    ((x <<< 8) ||| b.setWidth w).setWidth 8 = b := by
  apply BitVec.eq_of_getLsbD_eq
  intro i hi
  simp [hi, show i < w by omega]

/-- Packing one more byte moves the bytes before it up by 8 bits. -/
theorem setWidth_ushiftRight_pushByte {w p : Nat} (x : BitVec w) (b : Byte) (hw : p + 16 ≤ w) :
    (((x <<< 8) ||| b.setWidth w) >>> (p + 8)).setWidth 8 = (x >>> p).setWidth 8 := by
  apply BitVec.eq_of_getLsbD_eq
  intro i hi
  have hb : b.getLsbD (p + 8 + i) = false := BitVec.getLsbD_of_ge _ _ (by omega)
  simp [hi, hb, show p + 8 + i < w by omega, show ¬ p + 8 + i < 8 by omega, show p + 8 + i - 8 = p + i by omega,
    BitVec.getLsbD_eq_getElem (show p + i < w by omega)]

/-- Byte `k` of a value that holds all the bytes packed into it, the first most significant. -/
theorem byte_packBytes {w k : Nat} {bs : List Byte} {b : Byte} (hw : 8 * bs.length ≤ w) (hk : bs[k]? = some b) :
    (packBytes w bs >>> (8 * (bs.length - 1 - k))).setWidth 8 = b := by
  induction bs using List.reverseRecOn with
  | nil => cases hk
  | append_singleton bs last ih =>
    rw [List.length_append, List.length_singleton] at hw ⊢
    rw [packBytes_append_singleton]
    rcases Nat.lt_trichotomy k bs.length with hlt | heq | hgt
    · rw [List.getElem?_append_left hlt] at hk
      rw [show 8 * (bs.length + 1 - 1 - k) = 8 * (bs.length - 1 - k) + 8 by omega,
        setWidth_ushiftRight_pushByte _ _ (by omega)]
      exact ih (by omega) hk
    · rw [heq, List.getElem?_concat_length] at hk
      cases hk
      rw [show 8 * (bs.length + 1 - 1 - k) = 0 by omega, BitVec.ushiftRight_zero]
      exact setWidth_pushByte _ _ (by omega)
    · rw [List.getElem?_eq_none (by simp; omega)] at hk
      cases hk

theorem macByte_packBytes {k : Nat} {bs : List Byte} {b : Byte} (hlen : bs.length = 6) (hk : bs[k]? = some b) :
    macByte (packBytes 48 bs) k = b := by
  have hbyte := byte_packBytes (w := 48) (by omega) hk
  rw [hlen, show 8 * (6 - 1 - k) = 40 - 8 * k by omega] at hbyte
  exact hbyte

theorem byteOf_packBytes {k : Nat} {bs : List Byte} {b : Byte} (hlen : bs.length = 4) (hk : bs[k]? = some b) :
    byteOf (packBytes 32 bs) k = b := by
  have hbyte := byte_packBytes (w := 32) (by omega) hk
  rw [hlen, show 8 * (4 - 1 - k) = 24 - 8 * k by omega] at hbyte
  exact hbyte

end Sys2Proof.Proofs
end

section
/-! SUPPORT. The commands PMAC and PIP (R125 to R127, R130, R262): what the scan's outcome makes of the state. -/

namespace Sys2Proof.Proofs

open Sys2Proof.Machine

section
variable {s : State}

/-! ## The command after the scan -/

theorem exec_pmac_of_ok {sel : MacReg} {out : List Byte} (h : parseAddr macGrammar (parserText s) = .ok out) :
    exec (.pmac sel) s = .next (parseSucceeded sel.toAddr (writeMac sel (packBytes 48 out) s)) := by
  rw [exec, execPmac, h]

theorem exec_pmac_of_error {sel : MacReg} {e : ParseError} (h : parseAddr macGrammar (parserText s) = .error e) :
    exec (.pmac sel) s = .next (takeAbnormal (.parseError sel.toAddr e.field e.cause) s) := by
  rw [exec, execPmac, h]

theorem exec_pip_of_ok {sel : IpReg} {out : List Byte} (h : parseAddr ipGrammar (parserText s) = .ok out) :
    exec (.pip sel) s = .next (parseSucceeded sel.toAddr (writeIp sel (packBytes 32 out) s)) := by
  rw [exec, execPip, h]

theorem exec_pip_of_error {sel : IpReg} {e : ParseError} (h : parseAddr ipGrammar (parserText s) = .error e) :
    exec (.pip sel) s = .next (takeAbnormal (.parseError sel.toAddr e.field e.cause) s) := by
  rw [exec, execPip, h]

end

/-! ## The whole effect on the state -/

theorem parseSucceeded_writeMac (sel : MacReg) (m : Mac) (s : State) :
    parseSucceeded sel.toAddr (writeMac sel m s)
      = { s with
          dmac := if sel = .dmac then m else s.dmac
          smac := if sel = .smac then m else s.smac
          status := { s.status with
            perr := false
            dmacv := s.status.dmacv || decide (sel = .dmac)
            smacv := s.status.smacv || decide (sel = .smac) } } := by
  cases sel <;> simp [parseSucceeded, writeMac, MacReg.toAddr, Status.setValid]

theorem parseSucceeded_writeIp (sel : IpReg) (a : Word) (s : State) :
    parseSucceeded sel.toAddr (writeIp sel a s)
      = { s with
          sip := if sel = .sip then a else s.sip
          dip := if sel = .dip then a else s.dip
          status := { s.status with
            perr := false
            sipv := s.status.sipv || decide (sel = .sip)
            dipv := s.status.dipv || decide (sel = .dip) } } := by
  cases sel <;> simp [parseSucceeded, writeIp, IpReg.toAddr, Status.setValid]

theorem takeAbnormal_parseError_mac (sel : MacReg) (f : Nat) (c : ParseCause) (s : State) :
    takeAbnormal (.parseError sel.toAddr f c) s
      = { s with
          status := { s.status with
            perr := true
            dmacv := s.status.dmacv && decide (sel ≠ .dmac)
            smacv := s.status.smacv && decide (sel ≠ .smac) }
          errinfo := { ev := true, cause := c, field := BitVec.ofNat 3 f, src := sel.toAddr } } := by
  cases sel <;> simp [takeAbnormal, MacReg.toAddr, Status.setValid]

theorem takeAbnormal_parseError_ip (sel : IpReg) (f : Nat) (c : ParseCause) (s : State) :
    takeAbnormal (.parseError sel.toAddr f c) s
      = { s with
          status := { s.status with
            perr := true
            sipv := s.status.sipv && decide (sel ≠ .sip)
            dipv := s.status.dipv && decide (sel ≠ .dip) }
          errinfo := { ev := true, cause := c, field := BitVec.ofNat 3 f, src := sel.toAddr } } := by
  cases sel <;> simp [takeAbnormal, IpReg.toAddr, Status.setValid]

/-! ## The success case -/

/-- Settles O20. -/
theorem pmacParsesSixFields : Obligations.PmacParsesSixFields := by
  intro sel s toks last hcount htoks htext
  have hparse : parseAddr macGrammar (parserText s) = .ok ((toks ++ [last]).map (fieldValue 16)) := by
    rw [htext]
    exact parseAddr_ok last digitValue_macSep htoks hcount
  refine ⟨_, fun k t hk => macByte_packBytes (by simp [hcount]) ?byte,
    (exec_pmac_of_ok hparse).trans (congrArg _ (parseSucceeded_writeMac sel _ s))⟩
  case byte => rw [List.getElem?_map, hk, Option.map_some]

/-- Settles O21. -/
theorem pipParsesFourFields : Obligations.PipParsesFourFields := by
  intro sel s toks last hcount htoks htext
  have hparse : parseAddr ipGrammar (parserText s) = .ok ((toks ++ [last]).map (fieldValue 10)) := by
    rw [htext]
    exact parseAddr_ok last digitValue_ipSep htoks hcount
  refine ⟨_, fun k t hk => byteOf_packBytes (by simp [hcount]) ?byte,
    (exec_pip_of_ok hparse).trans (congrArg _ (parseSucceeded_writeIp sel _ s))⟩
  case byte => rw [List.getElem?_map, hk, Option.map_some]

/-! ## The failing cases -/

/-- Settles O22. -/
theorem pmacReportsFirstFailingField : Obligations.PmacReportsFirstFailingField := by
  intro sel s toks bad rest hcount htoks hbad
  have hfield : toks.length < macGrammar.laterFields := Nat.lt_succ_of_le hcount
  refine ⟨fun htext => ?missingSep, fun hlen htext => ?overlen⟩
  case missingSep =>
    have hparse := htext ▸ parseAddr_missingSep digitValue_macSep htoks hfield hbad
    rw [exec_pmac_of_error hparse, takeAbnormal_parseError_mac]
  case overlen =>
    have hparse := htext ▸ parseAddr_overlen rest digitValue_macSep htoks hfield hbad hlen
    rw [exec_pmac_of_error hparse, takeAbnormal_parseError_mac]

/-- Settles O23. -/
theorem pipReportsFirstFailingField : Obligations.PipReportsFirstFailingField := by
  intro sel s toks bad rest hcount htoks hbad
  have hfield : toks.length < ipGrammar.laterFields := Nat.lt_succ_of_le hcount
  refine ⟨fun htext => ?missingSep, fun hlen htext => ?overlen⟩
  case missingSep =>
    have hparse := htext ▸ parseAddr_missingSep digitValue_ipSep htoks hfield hbad
    rw [exec_pip_of_error hparse, takeAbnormal_parseError_ip]
  case overlen =>
    have hparse := htext ▸ parseAddr_overlen rest digitValue_ipSep htoks hfield hbad hlen
    rw [exec_pip_of_error hparse, takeAbnormal_parseError_ip]

/-! ## Every text -/

/-- Settles O24: the scan ends one way or the other, and each way's effect is within the frame. -/
theorem parsesTouchOnlyTheirRegister : Obligations.ParsesTouchOnlyTheirRegister := by
  refine ⟨fun sel s => ?pmac, fun sel s => ?pip⟩
  case pmac =>
    cases h : parseAddr macGrammar (parserText s) with
    | ok out =>
      refine ⟨_, exec_pmac_of_ok h, ?_⟩
      cases sel <;> rfl
    | error e =>
      refine ⟨_, exec_pmac_of_error h, ?_⟩
      cases sel <;> rfl
  case pip =>
    cases h : parseAddr ipGrammar (parserText s) with
    | ok out =>
      refine ⟨_, exec_pip_of_ok h, ?_⟩
      cases sel <;> rfl
    | error e =>
      refine ⟨_, exec_pip_of_error h, ?_⟩
      cases sel <;> rfl

end Sys2Proof.Proofs
end

section
/-! SUPPORT. The checksum engine against its reading over the naturals (R150 to R159): the region's sum does not wrap,
the fold loop ends in two rounds, CSUM and CVFY report the fold, and a region holds its own checksum or it does not.
BUILD's self-check, which asks the same of the header, leaves `FATAL` alone (R209, R265). -/

namespace Sys2Proof.Proofs

open Sys2Proof.Machine Sys2Proof.Safety

variable {s t : State} {base count k : Nat}

/-! ## The fold -/

/-- The first round leaves at most two full halves, so the second leaves no carry (R159). -/
theorem foldRounds_two_toNat_lt (acc : Word) : (foldRounds 2 acc).toNat < 2 ^ 16 := by
  have hacc := acc.isLt
  rw [foldRounds_succ, foldRounds_succ, foldRounds]
  simp only [add_halves_toNat, halfLo_toNat, halfHi_toNat]
  omega

/-- Settles O28. -/
theorem twoFoldsSuffice : Obligations.TwoFoldsSuffice := by
  refine fun acc => ⟨BitVec.eq_of_toNat_eq ?_, fold_toNat acc⟩
  rw [halfHi_toNat]
  exact Nat.div_eq_of_lt (foldRounds_two_toNat_lt acc)

theorem foldTotal_pos_iff (n : Nat) : 0 < foldTotal n ↔ 0 < n := by
  simp only [foldTotal]
  split_ifs <;> omega

theorem foldTotal_modEq (n : Nat) : foldTotal n ≡ n [MOD 0xFFFF] := by
  simp only [foldTotal, Nat.ModEq]
  split_ifs <;> omega

theorem foldTotal_le (n : Nat) : foldTotal n ≤ 0xFFFF := by
  simp only [foldTotal]
  split_ifs <;> omega

/-- The fold is all ones exactly for a multiple of 0xFFFF other than zero. -/
theorem foldTotal_eq_ones_iff (n : Nat) : foldTotal n = 0xFFFF ↔ 0 < n ∧ 0xFFFF ∣ n := by
  simp only [foldTotal]
  split_ifs with h
  · simp [h]
  · omega

/-- The complement of its fold completes a total to such a multiple (R158). -/
theorem foldTotal_add_complement (n : Nat) : foldTotal (n + (0xFFFF - foldTotal n)) = 0xFFFF := by
  have hpos := foldTotal_pos_iff n
  have hmod : foldTotal n % 0xFFFF = n % 0xFFFF := foldTotal_modEq n
  have hle := foldTotal_le n
  rw [foldTotal_eq_ones_iff]
  omega

/-- Its own fold doubles a total modulo 0xFFFF, which is odd: all ones come out only of all ones (R158). -/
theorem foldTotal_add_self_fold_iff (n : Nat) : foldTotal (n + foldTotal n) = 0xFFFF ↔ foldTotal n = 0xFFFF := by
  have hdouble : n + foldTotal n ≡ 2 * n [MOD 0xFFFF] := Nat.two_mul n ▸ (foldTotal_modEq n).add_left n
  have hdvd : 0xFFFF ∣ n + foldTotal n ↔ 0xFFFF ∣ n :=
    (hdouble.dvd_iff dvd_rfl).trans (Nat.Coprime.dvd_mul_left (by decide))
  have hpos : 0 < n + foldTotal n ↔ 0 < n := by
    rw [Nat.add_pos_iff_pos_or_pos, foldTotal_pos_iff, or_self]
  rw [foldTotal_eq_ones_iff, foldTotal_eq_ones_iff, hdvd, hpos]

/-! ## The sum over a region -/

theorem regionTotal_zero (s : State) (base : Nat) : regionTotal s base 0 = 0 := rfl

theorem regionTotal_succ (s : State) (base count : Nat) :
    regionTotal s base (count + 1)
      = (halfHi (fbWord s base)).toNat + (halfLo (fbWord s base)).toNat + regionTotal s (base + 1) count := by
  simp only [regionTotal, List.sum_range_succ', Nat.add_zero, Nat.succ_eq_add_one, Nat.add_assoc, Nat.add_comm 1]

/-- The total looks at the words of its region only. -/
theorem regionTotal_congr (h : ∀ k, base ≤ k → k < base + count → fbWord t k = fbWord s k) :
    regionTotal t base count = regionTotal s base count := by
  induction count generalizing base with
  | zero => rw [regionTotal_zero, regionTotal_zero]
  | succ n ih =>
    rw [regionTotal_succ, regionTotal_succ, h base (by omega) (by omega), ih fun k hlo hhi => h k (by omega) (by omega)]

/-- A half put into a zero field of the region is added to the total. -/
theorem regionTotal_patchFbLow (h : Half) (hlo : base ≤ k) (hhi : k < base + count)
    (hzero : halfLo (fbWord s k) = 0) :
    regionTotal (patchFbLow k h s) base count = regionTotal s base count + h.toNat := by
  induction count generalizing base with
  | zero => omega
  | succ n ih =>
    rw [regionTotal_succ, regionTotal_succ]
    by_cases hk : k = base
    · subst hk
      have hrest : regionTotal (patchFbLow k h s) (k + 1) n = regionTotal s (k + 1) n :=
        regionTotal_congr fun i hi _ => fbWord_writeFbWord_other _ s (by omega)
      have hword : fbWord (patchFbLow k h s) k = wordOfHalves (halfHi (fbWord s k)) h := fbWord_writeFbWord_same ..
      have hfield : (halfLo (fbWord s k)).toNat = 0 := congrArg BitVec.toNat hzero
      rw [hrest, hword, halfHi_wordOfHalves, halfLo_wordOfHalves]
      omega
    · have hword : fbWord (patchFbLow k h s) base = fbWord s base := fbWord_writeFbWord_other _ s (Ne.symm hk)
      rw [hword, ih (by omega) (by omega), ← Nat.add_assoc]

/-- Adding one word's halves does not wrap below two full halves of the end. -/
theorem add_two_halves_toNat {acc : Word} (a b : Half) (h : acc.toNat + 0x1FFFE < 2 ^ 32) :
    (acc + a.setWidth 32 + b.setWidth 32).toNat = acc.toNat + a.toNat + b.toNat := by
  simp only [BitVec.toNat_add, BitVec.toNat_setWidth]
  omega

/-- The summation is the total over the naturals, while two full halves a word do not wrap (R152, R159). -/
theorem sumHalves_toNat (s : State) (k n : Nat) (acc : Word) (h : acc.toNat + n * 0x1FFFE < 2 ^ 32) :
    (sumHalves s k n acc).toNat = acc.toNat + regionTotal s k n := by
  induction n generalizing k acc with
  | zero => rw [sumHalves, regionTotal_zero, Nat.add_zero]
  | succ n ih =>
    have hhi := (halfHi (fbWord s k)).isLt
    have hlo := (halfLo (fbWord s k)).isLt
    have hsum := add_two_halves_toNat (halfHi (fbWord s k)) (halfLo (fbWord s k)) (acc := acc) (by omega)
    rw [sumHalves, ih _ _ (by omega), hsum, regionTotal_succ]
    omega

/-! ## `Csum` (R154) -/

/-- The fold of a region of at most 16 words, as arithmetic. -/
theorem csum_fst_toNat (s : State) (base : Nat) (h : count ≤ 16) :
    (csum s base count).1.toNat = foldTotal (regionTotal s base count) := by
  have hstart : (0 : Word).toNat = 0 := rfl
  rw [csum, fold_toNat, regionSum, sumHalves_toNat s base count 0 (by omega), hstart, Nat.zero_add]

theorem csum_snd (s : State) (base count : Nat) : (csum s base count).2 = ~~~(csum s base count).1 := rfl

theorem half_not_toNat (a : Half) : (~~~a).toNat = 0xFFFF - a.toNat := BitVec.toNat_not

/-- The inverted result is the fold. -/
theorem csum_snd_xor_ones (s : State) (base count : Nat) :
    (csum s base count).2 ^^^ 0xFFFF = (csum s base count).1 := by
  rw [csum_snd, show (0xFFFF : Half) = BitVec.allOnes 16 from rfl, BitVec.xor_allOnes, BitVec.not_not]

theorem half_eq_ones_iff (a : Half) : a = 0xFFFF ↔ a.toNat = 0xFFFF := BitVec.toNat_inj.symm

/-! ## CSUM and CVFY -/

theorem regionInBuffer_iff (hwords : s.cfg.fbWords = 16) :
    regionInBuffer s base count = true ↔ base + count ≤ 16 := by
  rw [regionInBuffer, hwords, decide_eq_true_iff]

theorem exec_csum_of_inBuffer (h : regionInBuffer s base count = true) :
    exec (.csum base count) s = .next { s with csfold := (csum s base count).1, csres := (csum s base count).2 } :=
  if_pos h

theorem exec_csum_of_outside (h : ¬ regionInBuffer s base count = true) :
    exec (.csum base count) s = .next (takeAbnormal .operand s) :=
  if_neg h

theorem exec_cvfy_of_inBuffer (h : regionInBuffer s base count = true) :
    exec (.cvfy base count) s = .next
      { s with
        csfold := (csum s base count).1
        status := { s.status with vok := (csum s base count).1 = 0xFFFF } } :=
  if_pos h

theorem exec_cvfy_of_outside (h : ¬ regionInBuffer s base count = true) :
    exec (.cvfy base count) s = .next (takeAbnormal .operand s) :=
  if_neg h

/-- Settles O25. -/
theorem csumStoresFoldedSumAndComplement : Obligations.CsumStoresFoldedSumAndComplement := by
  intro base count s hwords
  refine ⟨fun hin => ?inside, fun hout => ?outside⟩
  case inside =>
    exact ⟨_, _, csum_fst_toNat s base (by omega), half_not_toNat _,
      exec_csum_of_inBuffer ((regionInBuffer_iff hwords).2 hin)⟩
  case outside =>
    exact exec_csum_of_outside (by rw [regionInBuffer_iff hwords]; omega)

/-- Settles O26. -/
theorem cvfyReportsAllOnesFold : Obligations.CvfyReportsAllOnesFold := by
  intro base count s hwords
  refine ⟨fun hin => ?inside, fun hout => ?outside⟩
  case inside =>
    refine ⟨_, csum_fst_toNat s base (by omega), ?_⟩
    simp only [exec_cvfy_of_inBuffer ((regionInBuffer_iff hwords).2 hin), half_eq_ones_iff]
  case outside =>
    exact exec_cvfy_of_outside (by rw [regionInBuffer_iff hwords]; omega)

/-! ## A region that holds its own checksum (R158) -/

/-- The fold of a region whose zero field has been filled. -/
theorem csum_fst_patchFbLow_toNat (h : Half) (hlo : base ≤ k) (hhi : k < base + count) (hcount : count ≤ 16)
    (hzero : halfLo (fbWord s k) = 0) :
    (csum (patchFbLow k h s) base count).1.toNat = foldTotal (regionTotal s base count + h.toNat) := by
  rw [csum_fst_toNat _ _ hcount, regionTotal_patchFbLow h hlo hhi hzero]

theorem csum_patched_with_result (hlo : base ≤ k) (hhi : k < base + count) (hcount : count ≤ 16)
    (hzero : halfLo (fbWord s k) = 0) :
    csum (patchFbLow k (csum s base count).2 s) base count = (0xFFFF, 0) := by
  have hones : (csum (patchFbLow k (csum s base count).2 s) base count).1 = 0xFFFF := by
    rw [half_eq_ones_iff, csum_fst_patchFbLow_toNat _ hlo hhi hcount hzero, csum_snd, half_not_toNat,
      csum_fst_toNat s base hcount, foldTotal_add_complement]
  exact Prod.ext hones (by rw [csum_snd, hones]; rfl)

theorem csum_patched_with_fold_iff (hlo : base ≤ k) (hhi : k < base + count) (hcount : count ≤ 16)
    (hzero : halfLo (fbWord s k) = 0) :
    (csum (patchFbLow k (csum s base count).1 s) base count).1 = 0xFFFF ↔ (csum s base count).1 = 0xFFFF := by
  rw [half_eq_ones_iff, half_eq_ones_iff, csum_fst_patchFbLow_toNat _ hlo hhi hcount hzero,
    csum_fst_toNat s base hcount, foldTotal_add_self_fold_iff]

/-- Settles O27: the patch is BUILD's, and the inverted result is the fold. -/
theorem patchedRegionFoldsToAllOnes : Obligations.PatchedRegionFoldsToAllOnes := by
  intro base count s hfield hfit hzero
  rw [csum_snd_xor_ones]
  exact ⟨csum_patched_with_result (by omega) (by omega) (by omega) hzero,
    csum_patched_with_fold_iff (by omega) (by omega) (by omega) hzero⟩

/-! ## BUILD's self-check -/

@[simp] theorem finishBuild_fatal (v : FrameVariant) (s : State) :
    (finishBuild v s).status.fatal = s.status.fatal := by
  obtain ⟨u, hu, -, hstatus, -⟩ := finishBuild_eq_setDescriptor v s
  rw [hu, setDescriptor_status, hstatus]

/-- Settles O37: a refused BUILD sets `EOPER` only, and one that runs passes its self-check
(`buildFrame_eq_finishBuild`). -/
theorem buildNeverRaisesFatal : Obligations.BuildNeverRaisesFatal := by
  intro v s t h
  rcases execBuild_cases h with ⟨-, -, rfl⟩ | ⟨-, rfl⟩
  · rw [buildFrame_eq_finishBuild, finishBuild_fatal, writeFbWords_status]
  · rfl

end Sys2Proof.Proofs
end

section
/-! SUPPORT. The CRC engine against the conventional reflected CRC-32 (R170 to R182, G5): a byte of the stream is a byte
of its word, the byte step clocks the byte's bits in one at a time, and both loops are one fold over the unskipped bytes
of the stream. -/

namespace Sys2Proof.Proofs

open Sys2Proof.Machine Sys2Proof.Safety

variable {s t : State} {c : Config} {len : Nat}

/-! ## Bytes of the stream and of the result (R173, R176) -/

theorem byteOf_wordOfBytes (f : Nat → Byte) {k : Nat} (hk : k < 4) :
    byteOf (wordOfBytes (f 0) (f 1) (f 2) (f 3)) k = f k := by
  match k, hk with
  | 0, _ => exact byteOf_wordOfBytes_zero ..
  | 1, _ => exact byteOf_wordOfBytes_one ..
  | 2, _ => exact byteOf_wordOfBytes_two ..
  | 3, _ => exact byteOf_wordOfBytes_three ..

theorem byteOf_fbWord (s : State) (k : Nat) {j : Nat} (hj : j < 4) :
    byteOf (fbWord s k) j = frameByte s (4 * k + j) :=
  byteOf_wordOfBytes (fun j => frameByte s (4 * k + j)) hj

theorem byteOf_bswap32 (v : Word) {k : Nat} (hk : k < 4) : byteOf (bswap32 v) k = byteOf v (3 - k) :=
  byteOf_wordOfBytes (fun k => byteOf v (3 - k)) hk

/-- Settles O16: the shift of R173 is `byteOf`, and index `i` is byte `i % 4` of word `i / 4`. -/
theorem frameByteComesFromItsWord : Obligations.FrameByteComesFromItsWord := by
  intro s i
  have hbyte := byteOf_fbWord s (i / 4) (Nat.mod_lt i (by decide : 0 < 4))
  rw [Nat.div_add_mod] at hbyte
  exact hbyte.symm

/-! ## The byte step (R175) -/

/-- Of a register XORed with the data still to come, one shift clocks in the first data bit. -/
theorem crcStep_xor (acc x : Word) : crcStep (acc ^^^ x) = serialStep acc (x.getLsbD 0) ^^^ (x >>> 1) := by
  have hshift : (acc ^^^ x) >>> 1 = acc >>> 1 ^^^ x >>> 1 := BitVec.ushiftRight_xor_distrib ..
  rw [crcStep, serialStep, BitVec.getLsbD_xor, hshift]
  split_ifs
  · ac_rfl
  · rfl

/-- `n` shifts clock in the first `n` data bits and leave the others to come. -/
theorem crcSteps_xor (n : Nat) (acc x : Word) :
    crcSteps n (acc ^^^ x) = (List.range n).foldl (fun a j => serialStep a (x.getLsbD j)) acc ^^^ (x >>> n) := by
  induction n generalizing acc x with
  | zero => simp [crcSteps]
  | succ n ih =>
    rw [crcSteps, crcStep_xor, ih, List.range_succ_eq_map, List.foldl_cons, List.foldl_map, ← BitVec.shiftRight_add,
      Nat.add_comm 1 n]
    simp only [BitVec.getLsbD_ushiftRight, Nat.succ_eq_add_one, Nat.add_comm 1]

theorem getLsbD_setWidth_byte (b : Byte) (j : Nat) : (b.setWidth 32).getLsbD j = b.getLsbD j := by
  rw [BitVec.getLsbD_setWidth, Bool.and_eq_right_iff_imp, decide_eq_true_iff]
  exact fun hbit => (BitVec.lt_of_getLsbD hbit).trans (by decide)

/-- Settles O29: after eight shifts no data bit is left to come. -/
theorem crcByteIsEightSerialSteps : Obligations.CrcByteIsEightSerialSteps := by
  intro acc b
  have hnone : b.setWidth 32 >>> 8 = 0#32 := by bv_omega
  rw [crcByte, crcSteps_xor, hnone, BitVec.xor_zero, serialByte]
  simp only [getLsbD_setWidth_byte]

theorem crcByte_eq_serialByte : crcByte = serialByte :=
  funext fun acc => funext (crcByteIsEightSerialSteps acc)

/-! ## The unskipped bytes of the stream (R174, R181) -/

/-- Of the `n` stream indices from `i`, those the engine does not skip, in order. -/
def unskippedIndices (i n : Nat) : List Nat := (List.range' i n).filter fun j => j ≠ 14 ∧ j ≠ 15

theorem unskippedBytes_eq (s : State) (len : Nat) :
    unskippedBytes s len = (unskippedIndices 0 len).map (frameByte s) := by
  rw [unskippedBytes, List.range_eq_range', unskippedIndices]

theorem mem_unskippedIndices {i n j : Nat} :
    j ∈ unskippedIndices i n ↔ (i ≤ j ∧ j < i + n) ∧ j ≠ 14 ∧ j ≠ 15 := by
  simp [unskippedIndices]

theorem unskippedIndices_succ {i : Nat} (n : Nat) (h14 : i ≠ 14) (h15 : i ≠ 15) :
    unskippedIndices i (n + 1) = i :: unskippedIndices (i + 1) n :=
  List.filter_cons_of_pos (by simp [h14, h15])

/-- At index 14 the next unskipped index is 16, as far as the stream goes. -/
theorem unskippedIndices_skip (n : Nat) : unskippedIndices 14 n = unskippedIndices 16 (n - 2) := by
  match n with
  | 0 | 1 | _ + 2 => rfl

theorem unskippedBytes_congr (h : ∀ i < len, i ≠ 14 → i ≠ 15 → frameByte s i = frameByte t i) :
    unskippedBytes s len = unskippedBytes t len := by
  rw [unskippedBytes_eq, unskippedBytes_eq]
  refine List.map_congr_left fun i hi => ?_
  obtain ⟨⟨-, hlt⟩, h14, h15⟩ := mem_unskippedIndices.mp hi
  exact h i (by omega) h14 h15

/-! ## The two loops are one fold (R177, R182) -/

/-- The loop of R177, with rounds enough for the indices ahead, takes the unskipped ones among them. -/
theorem crcIndexLoop_eq_foldl {fuel i : Nat} (acc : Word) (hfuel : len - i ≤ fuel) (hi : i ≠ 15) :
    crcIndexLoop s len fuel i acc = ((unskippedIndices i (len - i)).map (frameByte s)).foldl crcByte acc := by
  induction fuel generalizing i acc with
  | zero =>
    rw [Nat.le_zero.mp hfuel]
    rfl
  | succ fuel ih =>
    rw [crcIndexLoop]
    split_ifs with hend hskip
    · rw [Nat.sub_eq_zero_of_le hend]
      rfl
    · have hskip' : i = 14 := hskip
      subst hskip'
      rw [crcSkipTo, ih acc (by omega) (by decide), unskippedIndices_skip, Nat.sub_sub]
    · have hahead : len - i = len - (i + 1) + 1 := by omega
      have h14 : i ≠ 14 := hskip
      rw [ih _ (by omega) (by omega), hahead, unskippedIndices_succ _ h14 hi]
      rfl

/-- How many indices from `i` are passed for `n` processed bytes: two more when 14 lies among them (R182). -/
def countSpan (i n : Nat) : Nat := if i ≤ 14 ∧ 14 < i + n then n + 2 else n

/-- The loop of R182 takes the unskipped indices of its span. -/
theorem crcCountLoop_eq_foldl (n : Nat) {i : Nat} (acc : Word) (hi : i ≠ 15) :
    crcCountLoop s n i acc = ((unskippedIndices i (countSpan i n)).map (frameByte s)).foldl crcByte acc := by
  induction n generalizing i acc with
  | zero =>
    have hspan : countSpan i 0 = 0 := if_neg (by omega)
    rw [hspan]
    rfl
  | succ n ih =>
    rw [crcCountLoop]
    split_ifs with hskip
    · have hspan : countSpan 14 (n + 1) = n + 3 := if_pos (by omega)
      have hrest : countSpan 17 n = n := if_neg (by omega)
      have hindices : unskippedIndices 14 (n + 3) = 16 :: unskippedIndices 17 n := rfl
      rw [hskip, crcSkipFrom, ih _ (by decide), hrest, hspan, hindices]
      rfl
    · have h14 : i ≠ 14 := hskip
      have hspan : countSpan i (n + 1) = countSpan (i + 1) n + 1 := by
        simp only [countSpan]
        split_ifs <;> omega
      rw [ih _ (by omega), hspan, unskippedIndices_succ _ h14 hi]
      rfl

theorem streamLength_of_indexBound (h : c.crcLenMode = .indexBound) (len : Nat) : streamLength c len = len := by
  rw [streamLength, h]

theorem streamLength_of_processedCount (h : c.crcLenMode = .processedCount) (len : Nat) :
    streamLength c len = if len ≤ 14 then len else len + 2 := by
  rw [streamLength, h]

/-- In both length modes the engine takes the unskipped bytes below the stream length. -/
theorem crcAccumulate_eq_foldl (s : State) (len : Nat) (init : Word) :
    crcAccumulate s len init = (unskippedBytes s (streamLength s.cfg len)).foldl crcByte init := by
  rw [unskippedBytes_eq]
  cases hmode : s.cfg.crcLenMode with
  | indexBound =>
    simp only [crcAccumulate, hmode, streamLength_of_indexBound hmode]
    exact crcIndexLoop_eq_foldl init le_rfl (by decide)
  | processedCount =>
    have hspan : countSpan 0 len = if len ≤ 14 then len else len + 2 := by
      simp only [countSpan]
      split_ifs <;> omega
    simp only [crcAccumulate, hmode, streamLength_of_processedCount hmode, ← hspan]
    exact crcCountLoop_eq_foldl len init (by decide)

theorem crc32_eq (s : State) (len : Nat) (debug : Bool) :
    crc32 s len debug
      = bswap32 (crcFinish debug
          ((unskippedBytes s (streamLength s.cfg len)).foldl serialByte (crcStart debug))) := by
  rw [crc32, crcAccumulate_eq_foldl, crcByte_eq_serialByte]

theorem byteOf_crc32 (s : State) (len : Nat) (debug : Bool) {k : Nat} (hk : k < 4) :
    byteOf (crc32 s len debug) k
      = byteOf (crcFinish debug
          ((unskippedBytes s (streamLength s.cfg len)).foldl serialByte (crcStart debug))) (3 - k) := by
  rw [crc32_eq, byteOf_bswap32 _ hk]

/-- Settles O32: the fold is over the unskipped bytes, and 14 and 15 add none to those below 14. -/
theorem crcIgnoresSkippedAndLaterBytes : Obligations.CrcIgnoresSkippedAndLaterBytes := by
  refine ⟨fun s t len debug hs ht h => ?agree, fun s debug hs => ?lengths⟩
  case agree =>
    rw [crc32_eq, crc32_eq, streamLength_of_indexBound hs, streamLength_of_indexBound ht, unskippedBytes_congr h]
  case lengths =>
    have h15 : unskippedIndices 0 15 = unskippedIndices 0 14 := by decide
    have h16 : unskippedIndices 0 16 = unskippedIndices 0 14 := by decide
    simp only [crc32_eq, streamLength_of_indexBound hs, unskippedBytes_eq, h15, h16, and_self]

/-! ## The legal lengths (R170, R182) -/

theorem crcMaxLen_of_indexBound (hwords : c.fbWords = 16) (h : c.crcLenMode = .indexBound) : crcMaxLen c = 64 := by
  simp only [crcMaxLen, h, hwords]

theorem crcMaxLen_of_processedCount (hwords : c.fbWords = 16) (h : c.crcLenMode = .processedCount) :
    crcMaxLen c = 62 := by
  simp only [crcMaxLen, h, hwords]

theorem crcMaxLen_eq (hwords : c.fbWords = 16) :
    crcMaxLen c = (match c.crcLenMode with | .indexBound => 64 | .processedCount => 62) := by
  cases h : c.crcLenMode with
  | indexBound => exact crcMaxLen_of_indexBound hwords h
  | processedCount => exact crcMaxLen_of_processedCount hwords h

theorem crcMaxLen_le (hwords : c.fbWords = 16) : crcMaxLen c ≤ 64 := by
  cases h : c.crcLenMode with
  | indexBound => exact (crcMaxLen_of_indexBound hwords h).le
  | processedCount => exact (crcMaxLen_of_processedCount hwords h).trans_le (by decide)

/-- Settles O33: the stream lengths are equal, and the parameters change no byte of the stream. -/
theorem countModeIsIndexModeShifted : Obligations.CountModeIsIndexModeShifted := by
  rintro s t n debug hs rfl
  refine ⟨?_, fun hwords => ⟨crcMaxLen_of_processedCount hwords hs, crcMaxLen_of_indexBound hwords rfl⟩⟩
  rw [crc32_eq, crc32_eq, streamLength_of_processedCount hs, streamLength_of_indexBound rfl]
  rfl

/-! ## CRC and CRCD (R178, R179) -/

theorem exec_crc_of_legal (h : len ≤ crcMaxLen s.cfg) :
    exec (.crc len) s = .next { s with crcres := crc32 s len false } :=
  if_neg h.not_gt

theorem exec_crc_of_tooLong (h : crcMaxLen s.cfg < len) : exec (.crc len) s = .next (takeAbnormal .operand s) :=
  if_pos h

theorem exec_crcd_of_legal (henabled : s.cfg.crcDebugEnable = true) (h : len ≤ crcMaxLen s.cfg) :
    exec (.crcd len) s = .next { s with crcres := crc32 s len true } :=
  (if_neg (by simp [henabled])).trans (if_neg h.not_gt)

theorem exec_crcd_of_refused (h : s.cfg.crcDebugEnable = false ∨ crcMaxLen s.cfg < len) :
    exec (.crcd len) s = .next (takeAbnormal .operand s) := by
  by_cases hdisabled : s.cfg.crcDebugEnable = false
  · exact if_pos hdisabled
  · exact (if_neg hdisabled).trans (if_pos (h.resolve_left hdisabled))

/-- Settles O30: outside debug mode the engine starts at all ones and inverts the end. -/
theorem crcStoresReversedConventionalCrc : Obligations.CrcStoresReversedConventionalCrc := by
  intro len s hwords
  refine ⟨fun hlen => ?legal, fun hlen => ?tooLong⟩
  case legal =>
    exact ⟨_, fun k hk => byteOf_crc32 s len false hk, exec_crc_of_legal (hlen.trans_eq (crcMaxLen_eq hwords).symm)⟩
  case tooLong =>
    exact exec_crc_of_tooLong ((crcMaxLen_le hwords).trans_lt hlen)

/-- Settles O31: in debug mode the engine starts at 0 and leaves the end as it is. -/
theorem crcdDropsBothInversions : Obligations.CrcdDropsBothInversions := by
  intro len s hwords
  refine ⟨fun henabled hlen => ?legal, fun h => ?refused⟩
  case legal =>
    exact ⟨_, fun k hk => byteOf_crc32 s len true hk,
      exec_crcd_of_legal henabled (hlen.trans_eq (crcMaxLen_eq hwords).symm)⟩
  case refused =>
    exact exec_crcd_of_refused (h.imp_right (crcMaxLen_le hwords).trans_lt)

end Sys2Proof.Proofs
end

section
/-! SUPPORT. What one step can do to the frame and its hand-over: the invariants of every step (R224), and who writes
`TXLOG` (R38). -/

namespace Sys2Proof.Proofs

open Sys2Proof.Machine Sys2Proof.Safety

variable {s t : State}

/-- A step takes an action off the queue, which is no part of the frame, and does at most what that action does. -/
theorem step_frameEffect (h : step s = .next t) : ∃ rest, FrameEffect { s with pending := rest } t := by
  rcases step_cases h with ⟨-, rfl⟩ | ⟨inp, rest, -, hinp⟩
  · exact ⟨t.pending, .same (.refl t)⟩
  · exact ⟨rest, performInput_frameEffect hinp⟩

/-- What `BUILT` promises says nothing of the queue. -/
theorem frameDescribed_withPending (rest : List Input) (hs : frameDescribed s) :
    frameDescribed { s with pending := rest } :=
  have hsame : SameFrame s { s with pending := rest } := by constructor <;> rfl
  hsame.keeps_frameDescribed hs

/-- Settles O53: taking an action off the queue and performing it both keep what `BUILT` promises. -/
theorem stepKeepsFrameDescribed : Obligations.StepKeepsFrameDescribed := by
  intro s t hs hstep
  obtain ⟨rest, heffect⟩ := step_frameEffect hstep
  exact heffect.keeps_frameDescribed (frameDescribed_withPending rest hs)

/-- Settles O55: the only events an action appends are those of a SEND of a described frame, one whole hand-over. -/
theorem stepKeepsLogOfHandOvers : Obligations.StepKeepsLogOfHandOvers := by
  intro s t hc hs hlog hstep
  obtain ⟨rest, heffect⟩ := step_frameEffect hstep
  exact heffect.keeps_logOfHandOvers hc (frameDescribed_withPending rest hs) hlog

/-! ## Who writes `TXLOG` -/

theorem sendEvents_ne_nil (s : State) : sendEvents s ≠ [] := by simp [sendEvents]

theorem buildFrame_txlog (v : FrameVariant) (s : State) : (buildFrame v s).txlog = s.txlog := by
  obtain ⟨u, hu, -, -, htxlog, -⟩ := finishBuild_eq_setDescriptor v (writeFbWords 0 (draftWords s) s)
  rw [buildFrame_eq_finishBuild, hu, setDescriptor_txlog, htxlog, writeFbWords_txlog]

/-- Of the commands only a SEND of a built frame writes `TXLOG`. -/
theorem exec_txlog {i : Instr} (h : exec i s = .next t) :
    t.txlog = s.txlog ∨ (i = .send ∧ s.status.built = true ∧ t = sent s) := by
  cases i with
  | nop | clrerr =>
    cases h
    exact .inl rfl
  | pmac sel => rcases execPmac_cases h with ⟨_, -, rfl⟩ | ⟨_, -, rfl⟩ <;> simp
  | pip sel => rcases execPip_cases h with ⟨_, -, rfl⟩ | ⟨_, -, rfl⟩ <;> simp
  | csum base count => rcases execCsum_cases h with ⟨-, rfl⟩ | ⟨-, rfl⟩ <;> exact .inl rfl
  | cvfy base count => rcases execCvfy_cases h with ⟨-, rfl⟩ | ⟨-, rfl⟩ <;> exact .inl rfl
  | crc len => rcases execCrc_cases h with ⟨-, rfl⟩ | ⟨-, rfl⟩ <;> exact .inl rfl
  | crcd len => rcases execCrcd_cases h with ⟨-, -, rfl⟩ | ⟨-, rfl⟩ <;> exact .inl rfl
  | send =>
    rcases execSend_cases h with ⟨hbuilt, -, rfl⟩ | ⟨-, rfl⟩
    · exact .inr ⟨rfl, hbuilt, rfl⟩
    · exact .inl rfl
  | build v =>
    rcases execBuild_cases h with ⟨-, -, rfl⟩ | ⟨-, rfl⟩
    · exact .inl (buildFrame_txlog v s)
    · exact .inl rfl

theorem storeRegister_txlog (a : HostAddr) (v : Word) (s : State) : (storeRegister a v s).txlog = s.txlog := by
  rcases storeRegister_cases a v s with h | h | ⟨k, -, -, h⟩ | ⟨k, -, -, h⟩ | h <;> rw [h] <;> rfl

/-- The word of SEND (R92): the one that encodes it. -/
theorem eq_of_decode_send {w : Word} (h : decode w = .ok .send) : w = 0x70000000 := by
  obtain ⟨hencode, -⟩ := encodeOfDecode w .send h
  exact hencode.symm

/-- Of the host's actions only the delivery of a SEND, while `FATAL` is clear, and the reset write `TXLOG`. -/
theorem performInput_txlog {inp : Input} (h : performInput inp s = .next t) :
    t.txlog = s.txlog ∨ (inp = .reset ∧ t = applyReset s)
      ∨ (inp = .hostWrite 0x00 0x70000000 ∧ s.status.fatal = false ∧ s.status.built = true ∧ t = sent s) := by
  rcases performInput_cases h with ⟨w, rfl, hw⟩ | ⟨a, v, -, -, rfl⟩ | ⟨a, -, rfl⟩ | ⟨rfl, rfl⟩
  · rcases deliverCommand_cases hw with ⟨-, rfl⟩ | ⟨hfatal, i, hdec, hi⟩ | ⟨-, e, -, rfl⟩
    · exact .inl rfl
    · rcases exec_txlog hi with hsame | ⟨rfl, hbuilt, rfl⟩
      · exact .inl hsame
      · rw [eq_of_decode_send hdec]
        exact .inr (.inr ⟨rfl, hfatal, hbuilt, rfl⟩)
    · exact .inl rfl
  · exact .inl (storeRegister_txlog a v s)
  · exact .inl rfl
  · exact .inr (.inl ⟨rfl, rfl⟩)

/-- Settles O46: a SEND of a built frame appends its events, of which there is one at least, and the reset empties the
log. -/
theorem onlySendAppendsToTheLog : Obligations.OnlySendAppendsToTheLog := by
  intro s t hstep hchanged
  rcases step_cases hstep with ⟨-, rfl⟩ | ⟨inp, rest, hpending, hinp⟩
  · exact absurd rfl hchanged
  · rw [hpending]
    rcases performInput_txlog hinp with hsame | ⟨rfl, rfl⟩ | ⟨rfl, hfatal, hbuilt, rfl⟩
    · exact absurd hsame hchanged
    · exact .inl ⟨rfl, rfl⟩
    · exact .inr ⟨rfl, hfatal, hbuilt, _, sendEvents_ne_nil _, rfl⟩

end Sys2Proof.Proofs
end

section
/-! SUPPORT. The descriptor and the control word that BUILD sets (R202, R215, R216), what BUILD leaves as it was (R217),
and the hand-over of that frame by SEND (R222). -/

namespace Sys2Proof.Proofs

open Sys2Proof.Machine Sys2Proof.Safety

variable {s t : State} {v : FrameVariant}

/-! ## BUILD answers -/

theorem allValid_iff (f : Status) :
    f.allValid = true ↔ f.dmacv = true ∧ f.smacv = true ∧ f.sipv = true ∧ f.dipv = true := by
  simp [Status.allValid, and_assoc]

theorem exec_build_of_refused (h : s.status.allValid = false) :
    exec (.build v) s = .next (takeAbnormal .operand s) :=
  if_pos h

theorem exec_build_of_valid (h : s.status.allValid = true) (hfit : layoutWords v ≤ s.cfg.fbWords) :
    exec (.build v) s = .next (buildFrame v s) :=
  (if_neg (by simp [h])).trans (if_neg hfit.not_gt)

theorem eq_buildFrame_of_exec (hvalid : s.status.allValid = true) (h : exec (.build v) s = .next t) :
    t = buildFrame v s := by
  rcases execBuild_cases h with ⟨-, -, rfl⟩ | ⟨hrefused, -⟩
  · rfl
  · simp [hvalid] at hrefused

/-! ## What BUILD sets and what it leaves -/

/-- `s` with what BUILD changes besides the descriptor, the control word and `BUILT`. -/
def withFrame (s : State) (fb : Memory) (csfold csres : Half) (crcres : Word) : State :=
  { s with fb := fb, csfold := csfold, csres := csres, crcres := crcres }

/-- The two states agree on everything but the buffer and the results of the engines. -/
def SameButFrame (s t : State) : Prop := t = withFrame s t.fb t.csfold t.csres t.crcres

theorem SameButFrame.trans {u : State} (h : SameButFrame s t) (h' : SameButFrame t u) : SameButFrame s u := by
  unfold SameButFrame at *
  rw [h] at h'
  exact h'

theorem writeFbWords_sameButFrame (k : Nat) (ws : List Word) (s : State) :
    SameButFrame s (writeFbWords k ws s) := by
  rw [writeFbWords_eq]
  rfl

theorem storeChecksums_sameButFrame (s : State) : SameButFrame s (storeIcmpChecksum (storeIpChecksum s)) := rfl

theorem appendCrc_sameButFrame (s : State) : SameButFrame s (appendCrc s) := rfl

/-- BUILD ends in setting the descriptor of a state in which only the buffer and the results have changed. -/
theorem buildFrame_eq_setDescriptor (v : FrameVariant) (s : State) :
    ∃ u, buildFrame v s = setDescriptor v u ∧ SameButFrame s u := by
  have hchecked := (writeFbWords_sameButFrame 0 (draftWords s) s).trans (storeChecksums_sameButFrame _)
  rw [buildFrame_eq_finishBuild, finishBuild]
  refine ⟨_, rfl, ?_⟩
  split
  · exact hchecked
  · exact hchecked.trans (appendCrc_sameButFrame _)

/-- R217: BUILD changes the buffer, the results, the descriptor, the control word and `BUILT`. -/
theorem buildFrame_eq (v : FrameVariant) (s : State) :
    buildFrame v s
      = { s with
          fb := (buildFrame v s).fb, csfold := (buildFrame v s).csfold, csres := (buildFrame v s).csres
          crcres := (buildFrame v s).crcres, txbase := windowBase v, txcount := wordCount s.cfg v
          txbytes := 4 * (wordCount s.cfg v).setWidth 7, txvar := v
          txctrl := controlWord s.cfg v (wordCount s.cfg v), status := { s.status with built := true } } := by
  obtain ⟨u, h, hu⟩ := buildFrame_eq_setDescriptor v s
  rw [h, hu]
  rfl
@[simp] theorem buildFrame_cfg (v : FrameVariant) (s : State) : (buildFrame v s).cfg = s.cfg := by
  rw [buildFrame_eq]
@[simp] theorem buildFrame_dmac (v : FrameVariant) (s : State) : (buildFrame v s).dmac = s.dmac := by
  rw [buildFrame_eq]
@[simp] theorem buildFrame_smac (v : FrameVariant) (s : State) : (buildFrame v s).smac = s.smac := by
  rw [buildFrame_eq]
@[simp] theorem buildFrame_txbase (v : FrameVariant) (s : State) : (buildFrame v s).txbase = windowBase v := by
  rw [buildFrame_eq]
@[simp] theorem buildFrame_txcount (v : FrameVariant) (s : State) :
    (buildFrame v s).txcount = wordCount s.cfg v := by rw [buildFrame_eq]
@[simp] theorem buildFrame_txbytes (v : FrameVariant) (s : State) :
    (buildFrame v s).txbytes = 4 * (wordCount s.cfg v).setWidth 7 := by rw [buildFrame_eq]
@[simp] theorem buildFrame_txvar (v : FrameVariant) (s : State) : (buildFrame v s).txvar = v := by
  rw [buildFrame_eq]
@[simp] theorem buildFrame_txctrl (v : FrameVariant) (s : State) :
    (buildFrame v s).txctrl = controlWord s.cfg v (wordCount s.cfg v) := by rw [buildFrame_eq]
@[simp] theorem buildFrame_built (v : FrameVariant) (s : State) : (buildFrame v s).status.built = true := by
  rw [buildFrame_eq]

/-! ## The window and the control word in numbers -/

theorem hwMac_iff (v : FrameVariant) : hwMac v = true ↔ v = .hs ∨ v = .hh := by
  cases v <;> decide

theorem windowBase_toNat (v : FrameVariant) : (windowBase v).toNat = if v = .hs ∨ v = .hh then 3 else 0 := by
  cases v <;> rfl

theorem layoutWords_le (v : FrameVariant) : layoutWords v ≤ 14 := by
  cases v <;> decide

/-- R202, U9: the window ends where the layout ends. -/
theorem window_ends_at_layout {c : Config} (h : windowsFit c) (v : FrameVariant) :
    (windowBase v).toNat + (wordCount c v).toNat = layoutWords v :=
  h v (by cases v <;> simp)

/-- The documented counts: the layout without the words before the window. -/
theorem wordCount_toNat {c : Config} (h : windowsFit c) (v : FrameVariant) :
    (wordCount c v).toNat = match v with | .ss => 14 | .sh => 12 | .hs => 11 | .hh => 9 := by
  rw [Nat.eq_sub_of_add_eq' (window_ends_at_layout h v)]
  cases v <;> rfl

theorem controlWord_eq (c : Config) (v : FrameVariant) (n : BitVec 5) :
    controlWord c v n = 1#32 <<< c.ctrlGoBit ||| n.setWidth 32 <<< c.ctrlWcShift
      ||| (if v = .ss ∨ v = .hs then 1#32 else 0#32) <<< c.ctrlNohwcrcBit
      ||| (if v = .ss ∨ v = .sh then 1#32 else 0#32) <<< c.ctrlNohwmacBit := by
  cases v <;> rfl

/-- Settles O34: a refused BUILD sets `EOPER` only, and one that runs changes what `buildFrame_eq` lists. -/
theorem buildSetsDescriptorAndControlWord : Obligations.BuildSetsDescriptorAndControlWord := by
  intro v s
  refine ⟨fun hclear => ?refused, fun hdmac hsmac hsip hdip hfit hwin => ?runs⟩
  case refused =>
    refine exec_build_of_refused (Bool.eq_false_iff.mpr fun hvalid => ?_)
    obtain ⟨hdmac, hsmac, hsip, hdip⟩ := (allValid_iff _).mp hvalid
    simp [hdmac, hsmac, hsip, hdip] at hclear
  case runs =>
    have hvalid := (allValid_iff _).mpr ⟨hdmac, hsmac, hsip, hdip⟩
    refine ⟨_, exec_build_of_valid hvalid hfit, ?base, ?count, ?bytes, ?ctrl, ?frame⟩
    case base => rw [buildFrame_txbase, windowBase_toNat]
    case count =>
      rw [buildFrame_txcount]
      exact wordCount_toNat hwin v
    case bytes =>
      rw [buildFrame_txbytes, buildFrame_txcount]
      bv_omega
    case ctrl =>
      rw [buildFrame_txctrl, buildFrame_txcount]
      exact controlWord_eq ..
    case frame =>
      rw [buildFrame_txbase, buildFrame_txcount, buildFrame_txbytes, buildFrame_txctrl]
      exact buildFrame_eq v s

/-! ## SEND -/

theorem exec_send_of_refused (h : s.status.built = false) : exec .send s = .next (takeAbnormal .operand s) :=
  if_pos h

theorem exec_send_of_built (h : s.status.built = true) (hfit : s.txbase.toNat + s.txcount.toNat ≤ s.cfg.fbWords) :
    exec .send s = .next (sent s) :=
  (if_neg (by simp [h])).trans (if_neg hfit.not_gt)

theorem length_fbWindow (s : State) (base count : Nat) : (fbWindow s base count).length = count := by
  simp [fbWindow]

theorem getElem?_fbWindow (s : State) (base : Nat) {count j : Nat} (h : j < count) :
    (fbWindow s base count)[j]? = some (fbWord s (base + j)) := by
  simp [fbWindow, h]

/-- R222: the log after a hand-over. -/
theorem sent_txlog (s : State) :
    (sent s).txlog = s.txlog
      ++ (if s.txvar = .hs ∨ s.txvar = .hh then [.writeMacDst s.dmac, .writeMacSrc s.smac] else [])
      ++ [.writeBulk s.txcount.toNat (fbWindow s s.txbase.toNat s.txcount.toNat), .writeTxCmd s.txctrl] := by
  simp only [sent, emit_txlog, sendEvents, hwMac_iff, List.append_assoc]

theorem sent_eq (s : State) :
    sent s = { s with txlog := (sent s).txlog, status := { s.status with built := false } } := rfl

/-- Settles O40: the bulk write lists the window, and `sent` is the rest of the answer. -/
theorem sendHandsOverTheWindow : Obligations.SendHandsOverTheWindow := by
  refine fun s => ⟨exec_send_of_refused, fun hbuilt hfit => ?_⟩
  refine ⟨_, length_fbWindow .., fun j hj => getElem?_fbWindow s s.txbase.toNat hj, ?_⟩
  rw [exec_send_of_built hbuilt hfit, sent_eq, sent_txlog]

/-- Settles O41: BUILD leaves a window that SEND accepts, and SEND clears `BUILT`. -/
theorem buildThenSendHandsOverOneFrame : Obligations.BuildThenSendHandsOverOneFrame := by
  intro v s hvalid hsize hwin
  have hend := window_ends_at_layout hwin v
  have hlayout : layoutWords v ≤ s.cfg.fbWords := by
    have hle := layoutWords_le v
    omega
  have hlen : (fbWindow (buildFrame v s) (windowBase v).toNat (wordCount s.cfg v).toNat).length
      = (wordCount s.cfg v).toNat := length_fbWindow ..
  refine ⟨buildFrame v s, sent (buildFrame v s), _, exec_build_of_valid hvalid hlayout,
    exec_send_of_built (buildFrame_built v s) ?window, ?log, hlen.trans (wordCount_toNat hwin v), ?words,
    exec_send_of_refused rfl⟩
  case window =>
    rw [buildFrame_txbase, buildFrame_txcount, buildFrame_cfg]
    omega
  case log =>
    rw [sent_txlog, hlen, buildFrame_txlog, buildFrame_txvar, buildFrame_dmac, buildFrame_smac, buildFrame_txcount,
      buildFrame_txbase, buildFrame_txctrl]
  case words =>
    intro j hj
    rw [hlen] at hj
    rw [getElem?_fbWindow _ _ hj, windowBase_toNat]

end Sys2Proof.Proofs
end

section
/-! SUPPORT. Words put together from fields, as numbers (R8, R21). -/

namespace Sys2Proof.Proofs

open Sys2Proof.Machine

theorem toNat_place {n p : Nat} (v : BitVec n) (hp : n + p ≤ 32) : (place v p).toNat = v.toNat * 2 ^ p := by
  have hlt : v.toNat * 2 ^ p < 2 ^ 32 :=
    calc v.toNat * 2 ^ p < 2 ^ n * 2 ^ p := Nat.mul_lt_mul_of_pos_right v.isLt (Nat.two_pow_pos p)
      _ = 2 ^ (n + p) := (Nat.pow_add ..).symm
      _ ≤ 2 ^ 32 := Nat.pow_le_pow_right (by decide) hp
  have hv : v.toNat < 2 ^ 32 := (Nat.le_mul_of_pos_right _ (Nat.two_pow_pos p)).trans_lt hlt
  rw [place, BitVec.toNat_shiftLeft, BitVec.toNat_setWidth, Nat.shiftLeft_eq, Nat.mod_eq_of_lt hv,
    Nat.mod_eq_of_lt hlt]

/-- A field above a word that ends below it is added to it. -/
theorem toNat_place_or {n p : Nat} (v : BitVec n) {w : Word} (hp : n + p ≤ 32) (hw : w.toNat < 2 ^ p) :
    (place v p ||| w).toNat = v.toNat * 2 ^ p + w.toNat := by
  rw [BitVec.toNat_or, toNat_place v hp, Nat.mul_comm, Nat.two_pow_add_eq_or_of_lt hw]

theorem wordOfHalves_toNat (hi lo : Half) : (wordOfHalves hi lo).toNat = hi.toNat * 2 ^ 16 + lo.toNat := by
  have hlo : (place lo 0).toNat = lo.toNat * 2 ^ 0 := toNat_place lo (by decide)
  rw [wordOfHalves, toNat_place_or _ (by decide) (by omega), hlo]
  omega

theorem wordOfBytesHalf_toNat (b0 b1 : Byte) (lo : Half) :
    (wordOfBytesHalf b0 b1 lo).toNat = b0.toNat * 2 ^ 24 + b1.toNat * 2 ^ 16 + lo.toNat := by
  have hlo : (place lo 0).toNat = lo.toNat * 2 ^ 0 := toNat_place lo (by decide)
  have h1 : (place b1 16 ||| place lo 0).toNat = b1.toNat * 2 ^ 16 + (place lo 0).toNat :=
    toNat_place_or _ (by decide) (by omega)
  rw [wordOfBytesHalf, BitVec.or_assoc, toNat_place_or _ (by decide) (by omega), h1, hlo]
  omega

theorem wordOfBytes_toNat (b0 b1 b2 b3 : Byte) :
    (wordOfBytes b0 b1 b2 b3).toNat
      = b0.toNat * 2 ^ 24 + b1.toNat * 2 ^ 16 + b2.toNat * 2 ^ 8 + b3.toNat := by
  have h3 : (place b3 0).toNat = b3.toNat * 2 ^ 0 := toNat_place b3 (by decide)
  have h2 : (place b2 8 ||| place b3 0).toNat = b2.toNat * 2 ^ 8 + (place b3 0).toNat :=
    toNat_place_or _ (by decide) (by omega)
  have h1 : (place b1 16 ||| (place b2 8 ||| place b3 0)).toNat
      = b1.toNat * 2 ^ 16 + (place b2 8 ||| place b3 0).toNat :=
    toNat_place_or _ (by decide) (by omega)
  rw [wordOfBytes, BitVec.or_assoc, BitVec.or_assoc, toNat_place_or _ (by decide) (by omega), h1, h2, h3]
  omega

theorem macByte_toNat (m : Mac) (k : Nat) : (macByte m k).toNat = m.toNat / 2 ^ (40 - 8 * k) % 2 ^ 8 := by
  rw [macByte, BitVec.toNat_setWidth, BitVec.toNat_ushiftRight, Nat.shiftRight_eq_div_pow]

end Sys2Proof.Proofs
end

section
/-! SUPPORT. The words that BUILD leaves in `FB[0..11]` and the checksums among them (R204 to R212): the draft, then the
two patched fields. -/

namespace Sys2Proof.Proofs

open Sys2Proof.Machine Sys2Proof.Safety

variable {s t : State} {v : FrameVariant} {k : Nat}

/-! ## The draft -/

/-- `FB[0..11]` written, the checksum fields zero. -/
def draftFrame (s : State) : State := writeFbWords 0 (draftWords s) s

@[simp] theorem draftFrame_cfg (s : State) : (draftFrame s).cfg = s.cfg := writeFbWords_cfg ..

theorem length_draftWords (s : State) : (draftWords s).length = 12 := rfl

theorem fbWord_draftFrame (s : State) (hk : k < 12) :
    fbWord (draftFrame s) k = (draftWords s)[k]'(by rw [length_draftWords]; exact hk) := by
  rw [draftFrame, fbWord_writeFbWords, dif_pos (by rw [length_draftWords]; omega)]
  rfl

/-- The sum over the IPv4 header with its checksum field zero (R206, R208). -/
theorem regionTotal_ipHeader (s : State) :
    regionTotal (draftFrame s) 4 5
      = 0x4500 + s.cfg.ipTos.toNat + s.cfg.ipTotlen.toNat + s.idseed.toNat
        + s.cfg.ipFlagsFrag.toNat + (256 * s.cfg.ipTtl.toNat + s.cfg.ipProto.toNat)
        + (s.sip.toNat / 65536 + s.sip.toNat % 65536) + (s.dip.toNat / 65536 + s.dip.toNat % 65536) := by
  have h4 : fbWord (draftFrame s) 4 = wordOfBytesHalf 0x45 s.cfg.ipTos s.cfg.ipTotlen := fbWord_draftFrame s (by decide)
  have h5 : fbWord (draftFrame s) 5 = wordOfHalves s.idseed s.cfg.ipFlagsFrag := fbWord_draftFrame s (by decide)
  have h6 : fbWord (draftFrame s) 6 = wordOfBytesHalf s.cfg.ipTtl s.cfg.ipProto 0 := fbWord_draftFrame s (by decide)
  have h7 : fbWord (draftFrame s) 7 = s.sip := fbWord_draftFrame s (by decide)
  have h8 : fbWord (draftFrame s) 8 = s.dip := fbWord_draftFrame s (by decide)
  simp only [regionTotal_succ, regionTotal_zero, Nat.reduceAdd, h4, h5, h6, h7, h8, halfHi_toNat, halfLo_toNat,
    wordOfBytesHalf_toNat, wordOfHalves_toNat, BitVec.ofNat_eq_ofNat, BitVec.toNat_ofNat]
  omega

/-- The sum over the ICMP words with their checksum field zero (R207, R211). -/
theorem regionTotal_icmp (s : State) :
    regionTotal (draftFrame s) 9 3
      = 0x0800 + (s.cfg.icmpIdseq.toNat / 65536 + s.cfg.icmpIdseq.toNat % 65536)
        + (s.cfg.payload.toNat / 65536 + s.cfg.payload.toNat % 65536) := by
  have h9 : fbWord (draftFrame s) 9 = 0x08000000 := fbWord_draftFrame s (by decide)
  have h10 : fbWord (draftFrame s) 10 = s.cfg.icmpIdseq := fbWord_draftFrame s (by decide)
  have h11 : fbWord (draftFrame s) 11 = s.cfg.payload := fbWord_draftFrame s (by decide)
  simp only [regionTotal_succ, regionTotal_zero, Nat.reduceAdd, h9, h10, h11, halfHi_toNat, halfLo_toNat,
    BitVec.ofNat_eq_ofNat, BitVec.toNat_ofNat]
  omega

/-! ## The checksums -/

/-- The engine looks at the words of its region only. -/
theorem csum_congr {base count : Nat} (hcount : count ≤ 16)
    (h : ∀ k, base ≤ k → k < base + count → fbWord t k = fbWord s k) : csum t base count = csum s base count := by
  have hfold : (csum t base count).1 = (csum s base count).1 :=
    BitVec.eq_of_toNat_eq (by rw [csum_fst_toNat t base hcount, csum_fst_toNat s base hcount, regionTotal_congr h])
  exact Prod.ext hfold (by rw [csum_snd, csum_snd, hfold])

/-- The draft with both checksums stored. -/
def checkedFrame (s : State) : State := storeIcmpChecksum (storeIpChecksum (draftFrame s))

@[simp] theorem checkedFrame_cfg (s : State) : (checkedFrame s).cfg = s.cfg := by
  rw [checkedFrame, storeIcmpChecksum_cfg, storeIpChecksum_cfg, draftFrame_cfg]

/-- The IPv4 checksum is stored before the ICMP words are summed, and is none of them. -/
theorem csum_icmp_storeIpChecksum (s : State) : csum (storeIpChecksum s) 9 3 = csum s 9 3 :=
  csum_congr (by decide) fun _ _ _ => fbWord_writeFbWord_other _ _ (by omega)

theorem checkedFrame_csfold (s : State) : (checkedFrame s).csfold = (csum (draftFrame s) 9 3).1 := by
  rw [checkedFrame, storeIcmpChecksum_eq, csum_icmp_storeIpChecksum]

theorem checkedFrame_csres (s : State) : (checkedFrame s).csres = (csum (draftFrame s) 9 3).2 := by
  rw [checkedFrame, storeIcmpChecksum_eq, csum_icmp_storeIpChecksum]

/-- Word `k` of the draft with its checksum field, if it has one, filled (R210, R211). -/
def checkedWord (s : State) (k : Nat) : Word :=
  if k = 6 then
    wordOfHalves (halfHi (fbWord (draftFrame s) 6)) ((csum (draftFrame s) 4 ipHdrWords).2 ^^^ s.cfg.ipcsumStoreXor)
  else if k = 9 then
    wordOfHalves (halfHi (fbWord (draftFrame s) 9)) ((csum (draftFrame s) 9 3).2 ^^^ s.cfg.icmpcsumStoreXor)
  else fbWord (draftFrame s) k

theorem fbWord_storeIpChecksum (s : State) (k : Nat) :
    fbWord (storeIpChecksum s) k
      = if k = 6 then wordOfHalves (halfHi (fbWord s 6)) ((csum s 4 ipHdrWords).2 ^^^ s.cfg.ipcsumStoreXor)
        else fbWord s k :=
  fbWord_writeFbWord ..

theorem fbWord_storeIcmpChecksum (s : State) (k : Nat) :
    fbWord (storeIcmpChecksum s) k
      = if k = 9 then wordOfHalves (halfHi (fbWord s 9)) ((csum s 9 3).2 ^^^ s.cfg.icmpcsumStoreXor)
        else fbWord s k :=
  fbWord_writeFbWord ..

theorem fbWord_checkedFrame (s : State) (k : Nat) : fbWord (checkedFrame s) k = checkedWord s k := by
  have h9 : fbWord (storeIpChecksum (draftFrame s)) 9 = fbWord (draftFrame s) 9 :=
    fbWord_writeFbWord_other _ _ (by decide)
  rw [checkedFrame, checkedWord, fbWord_storeIcmpChecksum, h9, fbWord_storeIpChecksum, csum_icmp_storeIpChecksum,
    storeIpChecksum_cfg, draftFrame_cfg]
  by_cases h : k = 6
  · rw [if_neg (by omega), if_pos h, if_pos h]
  · rw [if_neg h, if_neg h]

/-! ## The whole frame -/

theorem buildFrame_of_hwCrc (h : hwCrc v = true) (s : State) :
    buildFrame v s = setDescriptor v (checkedFrame s) := by
  rw [buildFrame_eq_finishBuild, finishBuild, if_pos h]
  rfl

theorem buildFrame_of_swCrc (h : hwCrc v = false) (s : State) :
    buildFrame v s = setDescriptor v (appendCrc (checkedFrame s)) := by
  rw [buildFrame_eq_finishBuild, finishBuild, if_neg (by simp [h])]
  rfl

theorem fbWord_setDescriptor (v : FrameVariant) (s : State) (k : Nat) :
    fbWord (setDescriptor v s) k = fbWord s k :=
  fbWord_congr (setDescriptor_fb ..) (setDescriptor_epoch ..) k

/-- R207, R214: the two words of the trailer. -/
theorem fbWord_appendCrc (s : State) (k : Nat) :
    fbWord (appendCrc s) k = if k = 13 then (appendCrc s).crcres else if k = 12 then s.cfg.padword else fbWord s k := by
  have h : fbWord (appendCrc s) k
      = fbWord (writeFbWord 13 (appendCrc s).crcres (writeFbWord 12 s.cfg.padword s)) k :=
    fbWord_congr rfl rfl k
  rw [h, fbWord_writeFbWord, fbWord_writeFbWord]

/-- In every variant `FB[0..11]` are the draft with the checksums stored. -/
theorem fbWord_buildFrame (v : FrameVariant) (s : State) (hk : k < 12) :
    fbWord (buildFrame v s) k = checkedWord s k := by
  cases h : hwCrc v with
  | true => rw [buildFrame_of_hwCrc h, fbWord_setDescriptor, fbWord_checkedFrame]
  | false =>
    rw [buildFrame_of_swCrc h, fbWord_setDescriptor, fbWord_appendCrc, if_neg (by omega), if_neg (by omega),
      fbWord_checkedFrame]

theorem buildFrame_csfold (v : FrameVariant) (s : State) :
    (buildFrame v s).csfold = (csum (draftFrame s) 9 3).1 := by
  cases h : hwCrc v with
  | true => rw [buildFrame_of_hwCrc h, setDescriptor_csfold, checkedFrame_csfold]
  | false => rw [buildFrame_of_swCrc h, setDescriptor_csfold, appendCrc_eq, checkedFrame_csfold]

theorem buildFrame_csres (v : FrameVariant) (s : State) :
    (buildFrame v s).csres = (csum (draftFrame s) 9 3).2 := by
  cases h : hwCrc v with
  | true => rw [buildFrame_of_hwCrc h, setDescriptor_csres, checkedFrame_csres]
  | false => rw [buildFrame_of_swCrc h, setDescriptor_csres, appendCrc_eq, checkedFrame_csres]

end Sys2Proof.Proofs
end

section
/-! SUPPORT. Which bytes of the buffer BUILD marks and which it leaves (R37, R201), and the whole layout (R204 to
R212). -/

namespace Sys2Proof.Proofs

open Sys2Proof.Machine Sys2Proof.Safety

variable {s t : State} {v : FrameVariant} {k n : Nat}

/-! ## Marks -/

/-- A run of word writes marks its words and no other. -/
theorem fbMarked_writeFbWords (k : Nat) (ws : List Word) (s : State) (j : Nat) :
    fbMarked (writeFbWords k ws s) j = (decide (k ≤ j ∧ j < k + ws.length) || fbMarked s j) := by
  induction ws generalizing k s with
  | nil => simp [writeFbWords]
  | cons w ws ih =>
    have hrange : (k ≤ j ∧ j < k + (w :: ws).length) ↔ (k + 1 ≤ j ∧ j < k + 1 + ws.length) ∨ j = k := by
      rw [List.length_cons]
      omega
    rw [writeFbWords, ih, fbMarked_writeFbWord, ← Bool.or_assoc, ← Bool.decide_or, decide_eq_decide.mpr hrange]

theorem fbMarked_draftFrame (s : State) (hk : k < 12) : fbMarked (draftFrame s) k = true := by
  rw [draftFrame, fbMarked_writeFbWords, decide_eq_true (by rw [length_draftWords]; omega), Bool.true_or]

theorem fbMarked_storeIpChecksum (s : State) (k : Nat) :
    fbMarked (storeIpChecksum s) k = (decide (k = 6) || fbMarked s k) :=
  fbMarked_writeFbWord ..

theorem fbMarked_storeIcmpChecksum (s : State) (k : Nat) :
    fbMarked (storeIcmpChecksum s) k = (decide (k = 9) || fbMarked s k) :=
  fbMarked_writeFbWord ..

theorem fbMarked_checkedFrame (s : State) (hk : k < 12) : fbMarked (checkedFrame s) k = true := by
  rw [checkedFrame, fbMarked_storeIcmpChecksum, fbMarked_storeIpChecksum, fbMarked_draftFrame s hk, Bool.or_true,
    Bool.or_true]

theorem fbMarked_appendCrc (s : State) (k : Nat) :
    fbMarked (appendCrc s) k = (decide (k = 13) || (decide (k = 12) || fbMarked s k)) := by
  have h : fbMarked (appendCrc s) k
      = fbMarked (writeFbWord 13 (appendCrc s).crcres (writeFbWord 12 s.cfg.padword s)) k :=
    fbMarked_congr rfl k
  rw [h, fbMarked_writeFbWord, fbMarked_writeFbWord]

theorem fbMarked_setDescriptor (v : FrameVariant) (s : State) (k : Nat) :
    fbMarked (setDescriptor v s) k = fbMarked s k :=
  fbMarked_congr (setDescriptor_fb ..) k

/-- BUILD marks its layout (R201). -/
theorem fbMarked_buildFrame (v : FrameVariant) (s : State) (hk : k < layoutWords v) :
    fbMarked (buildFrame v s) k = true := by
  unfold layoutWords at hk
  cases h : hwCrc v with
  | true =>
    rw [if_pos h] at hk
    rw [buildFrame_of_hwCrc h, fbMarked_setDescriptor, fbMarked_checkedFrame s hk]
  | false =>
    rw [if_neg (by simp [h])] at hk
    rw [buildFrame_of_swCrc h, fbMarked_setDescriptor, fbMarked_appendCrc]
    by_cases hk12 : k < 12
    · rw [fbMarked_checkedFrame s hk12, Bool.or_true, Bool.or_true]
    · obtain rfl | rfl : k = 12 ∨ k = 13 := by omega
      · rfl
      · rfl

/-! ## The bytes that stay -/

/-- The two states agree on the buffer from word `n` on, marks included. -/
structure SameFrom (n : Nat) (s t : State) : Prop where
  epoch : t.epoch = s.epoch
  lookup : ∀ i ≥ 4 * n, Memory.lookup t.fb i = Memory.lookup s.fb i

theorem SameFrom.trans {u : State} (h : SameFrom n s t) (h' : SameFrom n t u) : SameFrom n s u where
  epoch := h'.epoch.trans h.epoch
  lookup i hi := (h'.lookup i hi).trans (h.lookup i hi)

theorem SameFrom.frameByte {i : Nat} (h : SameFrom n s t) (hi : i ≥ 4 * n) : frameByte t i = frameByte s i := by
  rw [Machine.frameByte, Machine.frameByte, h.lookup i hi, h.epoch]

theorem SameFrom.marked {i : Nat} (h : SameFrom n s t) (hi : i ≥ 4 * n) :
    Memory.marked t.fb i = Memory.marked s.fb i := by
  rw [Memory.marked, Memory.marked, h.lookup i hi]

theorem writeFbWord_sameFrom (w : Word) (s : State) (hk : k < n) : SameFrom n s (writeFbWord k w s) where
  epoch := rfl
  lookup i hi := by rw [writeFbWord_fb, Memory.lookup_insertWord, if_neg (by omega)]

theorem writeFbWords_sameFrom (ws : List Word) (s : State) (hk : k + ws.length ≤ n) :
    SameFrom n s (writeFbWords k ws s) := by
  induction ws generalizing k s with
  | nil => exact ⟨rfl, fun _ _ => rfl⟩
  | cons w ws ih =>
    rw [List.length_cons] at hk
    exact (writeFbWord_sameFrom w s (by omega)).trans (ih _ (by omega))

theorem storeIpChecksum_sameFrom (s : State) (hn : 12 ≤ n) : SameFrom n s (storeIpChecksum s) :=
  writeFbWord_sameFrom _ s (by omega)

theorem storeIcmpChecksum_sameFrom (s : State) (hn : 12 ≤ n) : SameFrom n s (storeIcmpChecksum s) where
  epoch := rfl
  lookup := (writeFbWord_sameFrom _ s (by omega : 9 < n)).lookup

theorem checkedFrame_sameFrom (s : State) (hn : 12 ≤ n) : SameFrom n s (checkedFrame s) :=
  have hdraft : SameFrom n s (draftFrame s) := writeFbWords_sameFrom _ _ (by rwa [length_draftWords, Nat.zero_add])
  (hdraft.trans (storeIpChecksum_sameFrom _ hn)).trans (storeIcmpChecksum_sameFrom _ hn)

theorem appendCrc_sameFrom (s : State) (hn : 14 ≤ n) : SameFrom n s (appendCrc s) where
  epoch := rfl
  lookup := ((writeFbWord_sameFrom s.cfg.padword s (by omega : 12 < n)).trans
    (writeFbWord_sameFrom (appendCrc s).crcres _ (by omega : 13 < n))).lookup

theorem setDescriptor_sameFrom (v : FrameVariant) (s : State) : SameFrom n s (setDescriptor v s) where
  epoch := setDescriptor_epoch ..
  lookup i _ := by rw [setDescriptor_fb]

/-- BUILD leaves what lies past its layout (R201). -/
theorem buildFrame_sameFrom (v : FrameVariant) (s : State) (hn : layoutWords v ≤ n) :
    SameFrom n s (buildFrame v s) := by
  unfold layoutWords at hn
  cases h : hwCrc v with
  | true =>
    rw [if_pos h] at hn
    rw [buildFrame_of_hwCrc h]
    exact (checkedFrame_sameFrom s hn).trans (setDescriptor_sameFrom ..)
  | false =>
    rw [if_neg (by simp [h])] at hn
    rw [buildFrame_of_swCrc h]
    have hchecked := checkedFrame_sameFrom s (show 12 ≤ n by omega)
    exact (hchecked.trans (appendCrc_sameFrom _ hn)).trans (setDescriptor_sameFrom ..)

/-! ## `FB[0..11]` -/

/-- The words without a checksum field are those of the draft. -/
theorem fbWord_buildFrame_of_draft (v : FrameVariant) (s : State) (hk : k < 12) (h6 : k ≠ 6) (h9 : k ≠ 9) :
    fbWord (buildFrame v s) k = (draftWords s)[k]'(by rw [length_draftWords]; exact hk) := by
  rw [fbWord_buildFrame v s hk, checkedWord, if_neg h6, if_neg h9, fbWord_draftFrame s hk]

/-- R204: the first four bytes of the destination address. -/
theorem macWord_first_toNat (m : Mac) :
    (wordOfBytes (macByte m 0) (macByte m 1) (macByte m 2) (macByte m 3)).toNat = m.toNat / 2 ^ 16 := by
  simp only [wordOfBytes_toNat, macByte_toNat]
  omega

/-- R204: the last two bytes of the one and the first two of the other. -/
theorem macWord_middle_toNat (d m : Mac) :
    (wordOfBytes (macByte d 4) (macByte d 5) (macByte m 0) (macByte m 1)).toNat
      = d.toNat % 2 ^ 16 * 2 ^ 16 + m.toNat / 2 ^ 32 := by
  simp only [wordOfBytes_toNat, macByte_toNat]
  omega

/-- R204: the last four bytes of the source address. -/
theorem macWord_last_toNat (m : Mac) :
    (wordOfBytes (macByte m 2) (macByte m 3) (macByte m 4) (macByte m 5)).toNat = m.toNat % 2 ^ 32 := by
  simp only [wordOfBytes_toNat, macByte_toNat]
  omega

/-- R206, R210: the third header word with its checksum. -/
theorem fbWord_buildFrame_six_toNat (v : FrameVariant) (s : State) :
    (fbWord (buildFrame v s) 6).toNat
      = s.cfg.ipTtl.toNat * 2 ^ 24 + s.cfg.ipProto.toNat * 2 ^ 16
        + (~~~(csum (draftFrame s) 4 5).1 ^^^ s.cfg.ipcsumStoreXor).toNat := by
  have hdraft : fbWord (draftFrame s) 6 = wordOfBytesHalf s.cfg.ipTtl s.cfg.ipProto 0 := fbWord_draftFrame s (by decide)
  rw [fbWord_buildFrame v s (by decide), checkedWord, if_pos rfl, wordOfHalves_toNat, halfHi_toNat, hdraft,
    wordOfBytesHalf_toNat, csum_snd, ipHdrWords]
  have hzero : (0 : Half).toNat = 0 := rfl
  omega

/-- R207, R211: the first ICMP word with its checksum. -/
theorem fbWord_buildFrame_nine_toNat (v : FrameVariant) (s : State) :
    (fbWord (buildFrame v s) 9).toNat
      = 0x0800 * 2 ^ 16 + (~~~(csum (draftFrame s) 9 3).1 ^^^ s.cfg.icmpcsumStoreXor).toNat := by
  have hdraft : fbWord (draftFrame s) 9 = 0x08000000 := fbWord_draftFrame s (by decide)
  rw [fbWord_buildFrame v s (by decide), checkedWord, if_neg (by decide), if_pos rfl, wordOfHalves_toNat, halfHi_toNat,
    hdraft, csum_snd]
  rfl

/-- Settles O35: the folds are those of the draft, whose words stay but for the two patched fields. -/
theorem buildLaysOutTheFrame : Obligations.BuildLaysOutTheFrame := by
  intro v s t hvalid hfit h
  obtain rfl := eq_buildFrame_of_exec hvalid h
  have hword {k : Nat} (hk : k < 12) (h6 : k ≠ 6) (h9 : k ≠ 9) := fbWord_buildFrame_of_draft v s hk h6 h9
  refine ⟨(csum (draftFrame s) 4 5).1, (csum (draftFrame s) 9 3).1, ?ipFold, ?icmpFold, ?fb0, ?fb1, ?fb2, ?fb3, ?fb4,
    ?fb5, fbWord_buildFrame_six_toNat v s, ?fb7, ?fb8, fbWord_buildFrame_nine_toNat v s, ?fb10, ?fb11,
    buildFrame_csfold v s, buildFrame_csres v s, ?marks⟩
  case ipFold => rw [csum_fst_toNat _ _ (by decide), regionTotal_ipHeader]
  case icmpFold => rw [csum_fst_toNat _ _ (by decide), regionTotal_icmp]
  case fb0 =>
    rw [hword (by decide) (by decide) (by decide)]
    exact macWord_first_toNat s.dmac
  case fb1 =>
    rw [hword (by decide) (by decide) (by decide)]
    exact macWord_middle_toNat s.dmac s.smac
  case fb2 =>
    rw [hword (by decide) (by decide) (by decide)]
    exact macWord_last_toNat s.smac
  case fb4 =>
    rw [hword (by decide) (by decide) (by decide)]
    exact wordOfBytesHalf_toNat ..
  case fb5 =>
    rw [hword (by decide) (by decide) (by decide)]
    exact wordOfHalves_toNat ..
  case fb3 | fb7 | fb8 | fb10 | fb11 =>
    rw [hword (by decide) (by decide) (by decide)]
    rfl
  case marks =>
    exact fun k hk => fbMarked_buildFrame v s (hk.trans_le (layoutWords_ge v))

end Sys2Proof.Proofs
end

section
/-! SUPPORT. The trailer of the software-CRC variants (R207, R214), and what BUILD depends on (R218). -/

namespace Sys2Proof.Proofs

open Sys2Proof.Machine Sys2Proof.Safety

variable {s s' t : State} {v v' : FrameVariant} {k : Nat}

/-! ## The trailer -/

theorem hwCrc_eq_false_iff (v : FrameVariant) : hwCrc v = false ↔ v = .ss ∨ v = .hs := by
  cases v <;> decide

theorem hwCrc_iff (v : FrameVariant) : hwCrc v = true ↔ v = .sh ∨ v = .hh := by
  cases v <;> decide

theorem fbWord_buildFrame_pad (h : hwCrc v = false) (s : State) : fbWord (buildFrame v s) 12 = s.cfg.padword := by
  rw [buildFrame_of_swCrc h, fbWord_setDescriptor, fbWord_appendCrc, if_neg (by decide), if_pos rfl, checkedFrame_cfg]

theorem fbWord_buildFrame_fcs (h : hwCrc v = false) (s : State) :
    fbWord (buildFrame v s) 13 = (buildFrame v s).crcres := by
  rw [buildFrame_of_swCrc h, fbWord_setDescriptor, fbWord_appendCrc, if_pos rfl, setDescriptor_crcres]

theorem hasCheckSequence_buildFrame (h : hwCrc v = false) (s : State) : HasCheckSequence (buildFrame v s) := by
  rw [buildFrame_of_swCrc h]
  exact (hasCheckSequence_appendCrc _).congr (setDescriptor_cfg ..) (setDescriptor_fb ..) (setDescriptor_epoch ..)

/-- R214: `CRCRES` is the check sequence of the built frame. -/
theorem buildFrame_crcres_of_swCrc (h : hwCrc v = false) (s : State) :
    (buildFrame v s).crcres
      = crc32 (buildFrame v s) (buildCrcLen (buildFrame v s).cfg) false := by
  rw [← fbWord_buildFrame_fcs h]
  exact hasCheckSequence_buildFrame h s

theorem buildFrame_crcres_of_hwCrc (h : hwCrc v = true) (s : State) : (buildFrame v s).crcres = s.crcres := by
  rw [buildFrame_of_hwCrc h, setDescriptor_crcres, checkedFrame, storeIcmpChecksum_eq, storeIpChecksum_eq, draftFrame,
    writeFbWords_eq]

/-- In both length modes BUILD's call reaches the same 52 stream bytes (R171, R182, R214). -/
theorem streamLength_buildCrcLen (c : Config) : streamLength c (buildCrcLen c) = 52 := by
  cases h : c.crcLenMode with
  | indexBound => rw [streamLength_of_indexBound h, buildCrcLen, h]
  | processedCount => rw [streamLength_of_processedCount h, buildCrcLen, h]; rfl

/-- Settles O36: the trailer is the last that BUILD writes, and nothing past the layout is written. -/
theorem buildAppendsOrKeepsTheTrailer : Obligations.BuildAppendsOrKeepsTheTrailer := by
  intro v s t hvalid hfit h
  obtain rfl := eq_buildFrame_of_exec hvalid h
  have hrest {i : Nat} (hi : i ≥ 4 * layoutWords v) :
      frameByte (buildFrame v s) i = frameByte s i
        ∧ Memory.marked (buildFrame v s).fb i = Memory.marked s.fb i :=
    have hsame := buildFrame_sameFrom v s le_rfl
    ⟨hsame.frameByte hi, hsame.marked hi⟩
  refine ⟨fun hsw => ?software, fun hhw => ?hardware⟩
  case software =>
    have hcrc := (hwCrc_eq_false_iff v).mpr hsw
    have hwords : layoutWords v = 14 := if_neg (by simp [hcrc])
    refine ⟨fbWord_buildFrame_pad hcrc s, fbWord_buildFrame_fcs hcrc s,
      fbMarked_buildFrame v s (by omega), fbMarked_buildFrame v s (by omega), fun k hk => ?_,
      fun i hi => hrest (by omega)⟩
    have hbyte := byteOf_crc32 (buildFrame v s) (buildCrcLen (buildFrame v s).cfg) false hk
    rw [streamLength_buildCrcLen, ← buildFrame_crcres_of_swCrc hcrc] at hbyte
    exact hbyte
  case hardware =>
    have hcrc := (hwCrc_iff v).mpr hhw
    have hwords : layoutWords v = 12 := if_pos hcrc
    exact ⟨buildFrame_crcres_of_hwCrc hcrc s, fun i hi => hrest (by omega)⟩

/-! ## What BUILD depends on -/

/-- The two states agree on what BUILD reads besides the variant (R218). -/
structure SameInputs (s s' : State) : Prop where
  cfg : s.cfg = s'.cfg
  dmac : s.dmac = s'.dmac
  smac : s.smac = s'.smac
  sip : s.sip = s'.sip
  dip : s.dip = s'.dip
  idseed : s.idseed = s'.idseed

section
variable (h : SameInputs s s')
include h

theorem SameInputs.draftWords_eq : draftWords s = draftWords s' := by
  simp only [draftWords, macWords, ipHeaderWords, icmpWords, h.cfg, h.dmac, h.smac, h.sip, h.dip, h.idseed]

theorem SameInputs.fbWord_draftFrame_eq (hk : k < 12) : fbWord (draftFrame s) k = fbWord (draftFrame s') k := by
  rw [fbWord_draftFrame s hk, fbWord_draftFrame s' hk]
  simp only [h.draftWords_eq]

theorem SameInputs.csum_draftFrame_eq {base count : Nat} (hfit : base + count ≤ 12) :
    csum (draftFrame s) base count = csum (draftFrame s') base count :=
  csum_congr (by omega) fun _ _ _ => h.fbWord_draftFrame_eq (by omega)

theorem SameInputs.checkedWord_eq (hk : k < 12) : checkedWord s k = checkedWord s' k := by
  simp only [checkedWord, h.cfg, h.fbWord_draftFrame_eq hk, h.fbWord_draftFrame_eq (show 6 < 12 by decide),
    h.fbWord_draftFrame_eq (show 9 < 12 by decide), h.csum_draftFrame_eq (show 9 + 3 ≤ 12 by decide),
    h.csum_draftFrame_eq (show 4 + ipHdrWords ≤ 12 by decide)]

theorem SameInputs.fbWord_buildFrame_eq (v v' : FrameVariant) (hk : k < 12) :
    fbWord (buildFrame v s) k = fbWord (buildFrame v' s') k := by
  rw [fbWord_buildFrame v s hk, fbWord_buildFrame v' s' hk, h.checkedWord_eq hk]

end

/-- Equal words have equal bytes. -/
theorem frameByte_eq_of_fbWord_eq {n i : Nat} (h : ∀ k < n, fbWord s k = fbWord t k) (hi : i < 4 * n) :
    frameByte s i = frameByte t i := by
  rw [frameByteComesFromItsWord s i, frameByteComesFromItsWord t i, h (i / 4) (by omega)]

theorem SameInputs.crcres_buildFrame_eq (h : SameInputs s s') (hv : hwCrc v = false) (hv' : hwCrc v' = false) :
    (buildFrame v s).crcres = (buildFrame v' s').crcres := by
  have hwords : ∀ k < 13, fbWord (buildFrame v s) k = fbWord (buildFrame v' s') k := by
    intro k hk
    rcases Nat.lt_succ_iff_lt_or_eq.mp hk with hk | rfl
    · exact h.fbWord_buildFrame_eq v v' hk
    · rw [fbWord_buildFrame_pad hv, fbWord_buildFrame_pad hv', h.cfg]
  rw [buildFrame_crcres_of_swCrc hv, buildFrame_crcres_of_swCrc hv']
  refine crc32_buildCrcLen_congr ?_ (fun i hi => frameByte_eq_of_fbWord_eq hwords (by omega)) false
  rw [buildFrame_cfg, buildFrame_cfg, h.cfg]

/-- Settles O38: each piece is a function of the inputs, the check sequence through the words before it. -/
theorem buildDependsOnInputsOnly : Obligations.BuildDependsOnInputsOnly := by
  intro v v' s s' t t' hvalid hvalid' hcfg hdmac hsmac hsip hdip hidseed ht ht'
  obtain rfl := eq_buildFrame_of_exec hvalid ht
  obtain rfl := eq_buildFrame_of_exec hvalid' ht'
  have h : SameInputs s s' := ⟨hcfg, hdmac, hsmac, hsip, hdip, hidseed⟩
  refine ⟨fun k hk => h.fbWord_buildFrame_eq v v' hk, ?csfold, ?csres, fun hv hv' => ?trailer, fun hvv => ?descriptor⟩
  case csfold => rw [buildFrame_csfold, buildFrame_csfold, h.csum_draftFrame_eq (by decide)]
  case csres => rw [buildFrame_csres, buildFrame_csres, h.csum_draftFrame_eq (by decide)]
  case trailer =>
    have hcrcres := h.crcres_buildFrame_eq hv hv'
    refine ⟨?_, ?_, hcrcres⟩
    · rw [fbWord_buildFrame_pad hv, fbWord_buildFrame_pad hv', h.cfg]
    · rw [fbWord_buildFrame_fcs hv, fbWord_buildFrame_fcs hv', hcrcres]
  case descriptor =>
    subst hvv
    simp only [buildFrame_txbase, buildFrame_txcount, buildFrame_txbytes, buildFrame_txvar, buildFrame_txctrl, h.cfg,
      and_self]

end Sys2Proof.Proofs
end

section
/-! SUPPORT. The control commands NOP and CLRERR (R250, R251): their words, their effect, their delivery. -/

namespace Sys2Proof.Proofs

open Sys2Proof.Machine

section
variable {w : Word} {s : State} {rest : List Input}

/-! ## Their words -/

/-- A well-formed command has one word: the decoder and the encoder undo each other (R92). -/
theorem decode_eq_ok_iff {i : Instr} (hwf : i.wellFormed = true) : decode w = .ok i ↔ w = encode i := by
  constructor
  · intro hdec
    exact (encodeOfDecode w i hdec).1.symm
  · rintro rfl
    exact decodeOfEncode i hwf

theorem decode_eq_clrerr_iff : decode w = .ok .clrerr ↔ w = 0x10000000 := decode_eq_ok_iff rfl

theorem decode_of_opField_zero (hop : opField w = 0) : decode w = decodeN w .nop := if_pos hop

/-- The low bits of opcode 0 are reserved (R250): a word that sets one of them is refused. -/
theorem decode_opField_zero_of_ne_zero (hop : opField w = 0) (hne : w ≠ 0) : decode w = .error .reservedBits := by
  have hlow : w.extractLsb' 0 28 ≠ 0 := fun hzero => hne (BitVec.eq_of_toNat_eq (toNat_of_formatN hop hzero))
  rw [decode_of_opField_zero hop]
  exact if_neg hlow

/-! ## Their effect -/

theorem exec_nop (s : State) : exec .nop s = .next s := rfl

theorem exec_clrerr (s : State) : exec .clrerr s = .next (clearErrors s) := rfl

/-- The cleared record reads 0 (R33, R251). -/
theorem toWord_errInfoClear : ErrInfo.clear.toWord = 0 := by decide

/-! ## Their delivery -/

/-- A command written while `FATAL` is set is taken and has no effect (R266). -/
theorem step_command_of_fatal (hfatal : s.status.fatal = true) (h : s.pending = .hostWrite 0x00 w :: rest) :
    step s = .next { s with pending := rest } := by
  rw [step_command h]
  exact deliverCommand_of_fatal w hfatal

theorem step_nop (h : s.pending = .hostWrite 0x00 0x00000000 :: rest) : step s = .next { s with pending := rest } := by
  cases hfatal : s.status.fatal with
  | true => exact step_command_of_fatal hfatal h
  | false => exact (stepRunsTheDecodedCommand s _ rest .nop h hfatal (decodeOfEncode .nop rfl)).trans (exec_nop _)

end

/-- Settles O42: NOP is the identity, `FATAL` drops the command, and opcode 0 has no word but 0. -/
theorem nopChangesNothing : Obligations.NopChangesNothing :=
  ⟨exec_nop, fun _ _ => step_nop, decodeOfEncode .nop rfl, fun _ hop hne => ⟨_, decode_opField_zero_of_ne_zero hop hne⟩⟩

/-- Settles O43: the effect is `clearErrors`, whose record reads 0. -/
theorem clrerrClearsTheErrorFlags : Obligations.ClrerrClearsTheErrorFlags :=
  ⟨fun s => ⟨ErrInfo.clear, toWord_errInfoClear, exec_clrerr s⟩, fun _ _ => step_command_of_fatal,
    fun _ => decode_eq_clrerr_iff⟩

end Sys2Proof.Proofs
end

section
/-! SUPPORT. What a command does to the error flags `ILL` and `EOPER` (R263, R264): a refused command sets `EOPER`,
CLRERR clears both, and every other command leaves both as they were. -/

namespace Sys2Proof.Proofs

open Sys2Proof.Machine Sys2Proof.Safety

variable {s t : State}

/-! ## The causes of R264, command by command -/

theorem operandRefused_csum_iff (s : State) (base count : Nat) :
    operandRefused s (.csum base count) = true ↔ regionInBuffer s base count = false := by
  simp [operandRefused, regionInBuffer]

theorem operandRefused_cvfy_iff (s : State) (base count : Nat) :
    operandRefused s (.cvfy base count) = true ↔ regionInBuffer s base count = false := by
  simp [operandRefused, regionInBuffer]

theorem operandRefused_crc_iff (s : State) (len : Nat) :
    operandRefused s (.crc len) = true ↔ crcMaxLen s.cfg < len := decide_eq_true_iff

theorem operandRefused_crcd_iff (s : State) (len : Nat) :
    operandRefused s (.crcd len) = true ↔ s.cfg.crcDebugEnable = false ∨ crcMaxLen s.cfg < len := by
  simp [operandRefused]

theorem operandRefused_send_iff (s : State) : operandRefused s .send = true ↔ s.status.built = false := by
  simp [operandRefused]

theorem operandRefused_build_iff (s : State) (v : FrameVariant) :
    operandRefused s (.build v) = true ↔ s.status.allValid = false := by
  rw [operandRefused, ← Status.allValid, Bool.not_eq_true']

/-- A command with a cause of R264 sets `EOPER` and does nothing else. -/
theorem exec_of_operandRefused {i : Instr} (h : operandRefused s i = true) :
    exec i s = .next (takeAbnormal .operand s) := by
  cases i with
  | nop | clrerr | pmac | pip => cases h
  | csum base count => exact exec_csum_of_outside (Bool.eq_false_iff.mp ((operandRefused_csum_iff s base count).mp h))
  | cvfy base count => exact exec_cvfy_of_outside (Bool.eq_false_iff.mp ((operandRefused_cvfy_iff s base count).mp h))
  | crc len => exact exec_crc_of_tooLong ((operandRefused_crc_iff s len).mp h)
  | crcd len => exact exec_crcd_of_refused ((operandRefused_crcd_iff s len).mp h)
  | send => exact exec_send_of_refused ((operandRefused_send_iff s).mp h)
  | build v => exact exec_build_of_refused ((operandRefused_build_iff s v).mp h)

/-! ## The flags after a command -/

/-- The two states agree on `ILL` and `EOPER`. -/
structure SameErrorFlags (s t : State) : Prop where
  ill : t.status.ill = s.status.ill
  eoper : t.status.eoper = s.status.eoper

theorem parseSucceeded_sameErrorFlags (r : AddrReg) (h : t.status = s.status) :
    SameErrorFlags s (parseSucceeded r t) := by
  constructor <;> simp [h]

theorem takeAbnormal_parseError_sameErrorFlags (r : AddrReg) (f : Nat) (c : ParseCause) (s : State) :
    SameErrorFlags s (takeAbnormal (.parseError r f c) s) := by
  constructor <;> simp

theorem buildFrame_sameErrorFlags (v : FrameVariant) (s : State) : SameErrorFlags s (buildFrame v s) := by
  rw [buildFrame_eq]
  exact ⟨rfl, rfl⟩

/-- A command is refused for a cause of R264, or is CLRERR, or leaves `ILL` and `EOPER` as they were. -/
theorem exec_errorFlags {i : Instr} (h : exec i s = .next t) :
    (operandRefused s i = true ∧ t = takeAbnormal .operand s) ∨ (i = .clrerr ∧ t = clearErrors s)
      ∨ SameErrorFlags s t := by
  cases i with
  | nop =>
    cases h
    exact .inr (.inr ⟨rfl, rfl⟩)
  | clrerr =>
    cases h
    exact .inr (.inl ⟨rfl, rfl⟩)
  | pmac sel =>
    rcases execPmac_cases h with ⟨out, -, rfl⟩ | ⟨e, -, rfl⟩
    · exact .inr (.inr (parseSucceeded_sameErrorFlags _ (writeMac_status ..)))
    · exact .inr (.inr (takeAbnormal_parseError_sameErrorFlags ..))
  | pip sel =>
    rcases execPip_cases h with ⟨out, -, rfl⟩ | ⟨e, -, rfl⟩
    · exact .inr (.inr (parseSucceeded_sameErrorFlags _ (writeIp_status ..)))
    · exact .inr (.inr (takeAbnormal_parseError_sameErrorFlags ..))
  | csum base count =>
    rcases execCsum_cases h with ⟨-, rfl⟩ | ⟨hout, rfl⟩
    · exact .inr (.inr ⟨rfl, rfl⟩)
    · exact .inl ⟨(operandRefused_csum_iff s base count).mpr hout, rfl⟩
  | cvfy base count =>
    rcases execCvfy_cases h with ⟨-, rfl⟩ | ⟨hout, rfl⟩
    · exact .inr (.inr ⟨rfl, rfl⟩)
    · exact .inl ⟨(operandRefused_cvfy_iff s base count).mpr hout, rfl⟩
  | crc len =>
    rcases execCrc_cases h with ⟨-, rfl⟩ | ⟨hlong, rfl⟩
    · exact .inr (.inr ⟨rfl, rfl⟩)
    · exact .inl ⟨(operandRefused_crc_iff s len).mpr hlong, rfl⟩
  | crcd len =>
    rcases execCrcd_cases h with ⟨-, -, rfl⟩ | ⟨hrefused, rfl⟩
    · exact .inr (.inr ⟨rfl, rfl⟩)
    · exact .inl ⟨(operandRefused_crcd_iff s len).mpr hrefused, rfl⟩
  | send =>
    rcases execSend_cases h with ⟨-, -, rfl⟩ | ⟨hnone, rfl⟩
    · exact .inr (.inr ⟨rfl, rfl⟩)
    · exact .inl ⟨(operandRefused_send_iff s).mpr hnone, rfl⟩
  | build v =>
    rcases execBuild_cases h with ⟨-, -, rfl⟩ | ⟨hinvalid, rfl⟩
    · exact .inr (.inr (buildFrame_sameErrorFlags v s))
    · exact .inl ⟨(operandRefused_build_iff s v).mpr hinvalid, rfl⟩

end Sys2Proof.Proofs
end

section
/-! SUPPORT. What an action of the outside, and so a step, can do to the error flags (R263 to R265): which of them
sets `FATAL` (none), and which clears `ILL` or `EOPER` (a CLRERR that runs, and the reset). -/

namespace Sys2Proof.Proofs

open Sys2Proof.Machine Sys2Proof.Safety

variable {s t : State}

/-- Settles O54: no action sets `FATAL` (`FrameEffect.keeps_fatal_clear`), since BUILD's self-check cannot fail
(`buildFrame_eq_finishBuild`), and the queue is no part of it. -/
theorem stepKeepsFatalClear : Obligations.StepKeepsFatalClear := by
  intro s t hfatal hstep
  obtain ⟨rest, heffect⟩ := step_frameEffect hstep
  exact heffect.keeps_fatal_clear hfatal

/-! ## Who clears `ILL` and `EOPER` -/

/-- `ILL` and `EOPER` are still set in `t` where they are in `s`. -/
structure KeepsErrorFlags (s t : State) : Prop where
  ill : s.status.ill = true → t.status.ill = true
  eoper : s.status.eoper = true → t.status.eoper = true

theorem SameErrorFlags.keeps (h : SameErrorFlags s t) : KeepsErrorFlags s t := ⟨h.ill.trans, h.eoper.trans⟩

theorem takeAbnormal_operand_keepsErrorFlags (s : State) : KeepsErrorFlags s (takeAbnormal .operand s) :=
  ⟨id, fun _ => rfl⟩

theorem takeAbnormal_illegal_keepsErrorFlags (s : State) : KeepsErrorFlags s (takeAbnormal .illegal s) :=
  ⟨fun _ => rfl, id⟩

theorem storeRegister_sameErrorFlags (a : HostAddr) (v : Word) (s : State) :
    SameErrorFlags s (storeRegister a v s) := by
  rcases storeRegister_cases a v s with h | h | ⟨k, -, -, h⟩ | ⟨k, -, -, h⟩ | h <;> rw [h] <;> exact ⟨rfl, rfl⟩

theorem performInput_keepsErrorFlags {inp : Input} (h : performInput inp s = .next t) :
    inp = .reset ∨ (inp = .hostWrite 0x00 0x10000000 ∧ s.status.fatal = false) ∨ KeepsErrorFlags s t := by
  rcases performInput_cases h with ⟨w, rfl, hw⟩ | ⟨a, v, -, -, rfl⟩ | ⟨a, -, rfl⟩ | ⟨rfl, -⟩
  · rcases deliverCommand_cases hw with ⟨-, rfl⟩ | ⟨hfatal, i, hdec, hi⟩ | ⟨-, e, -, rfl⟩
    · exact .inr (.inr ⟨id, id⟩)
    · rcases exec_errorFlags hi with ⟨-, rfl⟩ | ⟨rfl, -⟩ | hsame
      · exact .inr (.inr (takeAbnormal_operand_keepsErrorFlags s))
      · exact .inr (.inl ⟨by rw [decode_eq_clrerr_iff.mp hdec], hfatal⟩)
      · exact .inr (.inr hsame.keeps)
    · exact .inr (.inr (takeAbnormal_illegal_keepsErrorFlags s))
  · exact .inr (.inr (storeRegister_sameErrorFlags a v s).keeps)
  · exact .inr (.inr ⟨id, id⟩)
  · exact .inl rfl

/-- R263, R264: only the reset and a CLRERR that runs can clear `ILL` or `EOPER`. -/
theorem step_of_errorFlag_cleared (h : step s = .next t) (hcleared : ¬ KeepsErrorFlags s t) :
    s.pending.head? = some .reset
      ∨ (s.pending.head? = some (.hostWrite 0x00 0x10000000) ∧ s.status.fatal = false) := by
  rcases step_cases h with ⟨-, rfl⟩ | ⟨inp, rest, hpending, hinp⟩
  · exact absurd ⟨id, id⟩ hcleared
  rw [hpending]
  rcases performInput_keepsErrorFlags hinp with rfl | ⟨rfl, hfatal⟩ | hkeeps
  · exact .inl rfl
  · exact .inr ⟨rfl, hfatal⟩
  · exact absurd ⟨hkeeps.ill, hkeeps.eoper⟩ hcleared

/-- Settles O44: a cause of R264 decides whether the command is refused, and no other command sets `EOPER`. -/
theorem eoperHasExactlyItsCauses : Obligations.EoperHasExactlyItsCauses := by
  refine ⟨fun i s => ⟨exec_of_operandRefused, ?notNewlySet⟩, ?sticky⟩
  case notNewlySet =>
    intro hlegal t h heoper
    rcases exec_errorFlags h with ⟨hrefused, -⟩ | ⟨-, rfl⟩ | hsame
    · simp [hlegal] at hrefused
    · simp at heoper
    · exact hsame.eoper.symm.trans heoper
  case sticky =>
    intro s t hstep hset hclear
    refine step_of_errorFlag_cleared hstep fun hkeeps => ?_
    simp [hkeeps.eoper hset] at hclear

/-- Settles O45: with `FATAL` clear the delivery of an illegal word is `takeAbnormal .illegal`. -/
theorem illegalWordSetsIllUntilCleared : Obligations.IllegalWordSetsIllUntilCleared := by
  refine ⟨?illegal, ?sticky⟩
  case illegal =>
    rintro s w rest hpending hfatal ⟨e, hdec⟩
    rw [step_command hpending]
    exact deliverCommand_of_illegal hfatal hdec
  case sticky =>
    intro s t hstep hset hclear
    refine step_of_errorFlag_cleared hstep fun hkeeps => ?_
    simp [hkeeps.ill hset] at hclear

end Sys2Proof.Proofs
end

section
/-! SUPPORT. CORE while `FATAL` is set (R266): the host's writes neither look at `FATAL` nor change it, and only the
reset clears it. -/

namespace Sys2Proof.Proofs

open Sys2Proof.Machine

variable {s t : State}

/-- `s` with `FATAL` as given. -/
def withFatal (b : Bool) (s : State) : State := { s with status := { s.status with fatal := b } }

theorem withFatal_of_fatal {b : Bool} (h : s.status.fatal = b) : withFatal b s = s := by
  subst h
  rfl

theorem writeBuffer_withFatal (b : Bool) (a : HostAddr) (v : Word) (s : State) :
    writeBuffer a v (withFatal b s) = withFatal b (writeBuffer a v s) := by
  have hcfg : (withFatal b s).cfg = s.cfg := rfl
  unfold writeBuffer
  rw [hcfg]
  cases fbIndex s.cfg a with
  | some k => rfl
  | none => cases strIndex s.cfg a <;> rfl

/-- A host write outside `CMD` does the same whatever `FATAL` is, and leaves it. -/
theorem storeRegister_withFatal (b : Bool) (a : HostAddr) (v : Word) (s : State) :
    storeRegister a v (withFatal b s) = withFatal b (storeRegister a v s) := by
  unfold storeRegister
  split_ifs
  · rfl
  · rfl
  · exact writeBuffer_withFatal b a v s

theorem storeRegister_fatal (a : HostAddr) (v : Word) (s : State) :
    (storeRegister a v s).status.fatal = s.status.fatal := by
  rcases storeRegister_cases a v s with h | h | ⟨k, -, -, h⟩ | ⟨k, -, -, h⟩ | h <;> rw [h] <;> rfl

/-- Of the actions performed while `FATAL` is set only the reset clears it. -/
theorem performInput_fatal_iff {inp : Input} (hfatal : s.status.fatal = true) (h : performInput inp s = .next t) :
    t.status.fatal = false ↔ inp = .reset := by
  rcases performInput_cases h with ⟨w, rfl, hw⟩ | ⟨a, v, -, rfl, rfl⟩ | ⟨a, rfl, rfl⟩ | ⟨rfl, rfl⟩
  · rw [deliverCommand_of_fatal w hfatal] at hw
    cases hw
    simp [hfatal]
  · simp [storeRegister_fatal, hfatal]
  · simp [hfatal]
  · simp [Status.clear]

theorem step_fatal_iff (hfatal : s.status.fatal = true) (h : step s = .next t) :
    t.status.fatal = false ↔ s.pending.head? = some .reset := by
  rcases step_cases h with ⟨hempty, rfl⟩ | ⟨inp, rest, hpending, hinp⟩
  · simp [hempty, hfatal]
  · rw [hpending, List.head?_cons, Option.some.injEq]
    exact performInput_fatal_iff (s := { s with pending := rest }) hfatal hinp

/-- Settles O48: commands are dropped, host writes commute with setting `FATAL`, host reads do not look at it. -/
theorem fatalBlocksCommandsUntilReset : Obligations.FatalBlocksCommandsUntilReset := by
  refine fun s hfatal => ⟨fun _ _ => step_command_of_fatal hfatal, ?otherWrites, fun _ _ => step_hostRead,
    fun _ => step_fatal_iff hfatal⟩
  intro inp rest hpending hcommand hread hreset
  cases inp with
  | hostRead a => exact absurd rfl (hread a)
  | reset => exact absurd rfl hreset
  | hostWrite a v =>
    have ha : a.toNat ≠ 0x00 := fun h => hcommand v (by rw [BitVec.eq_of_toNat_eq (y := 0x00) h])
    have hsame : withFatal true { s with pending := rest } = { s with pending := rest } := withFatal_of_fatal hfatal
    refine ⟨storeRegister a v (withFatal false { s with pending := rest }),
      step_hostWrite (s := withFatal false s) hpending ha, ?_⟩
    rw [step_hostWrite hpending ha]
    congr 1
    calc storeRegister a v { s with pending := rest }
        = storeRegister a v (withFatal true (withFatal false { s with pending := rest })) :=
          (congrArg (storeRegister a v) hsame).symm
      _ = withFatal true (storeRegister a v (withFatal false { s with pending := rest })) :=
          storeRegister_withFatal ..

end Sys2Proof.Proofs
end

section
/-! SUPPORT. Every step answers (R306), and what the step that takes the external reset answers (R290). -/

namespace Sys2Proof.Proofs

open Sys2Proof.Machine

variable {s : State}

/-- R290: the reset is the action taken, so the rest of the queue is what it keeps. -/
theorem step_reset {rest : List Input} (h : s.pending = .reset :: rest) :
    step s = .next (applyReset { s with pending := rest }) :=
  step_of_pending h

/-- R271: with no action left the machine is idle. -/
theorem step_idle (h : s.pending = []) : step s = .next s := by
  unfold step performNext
  rw [h]

/-- Settles O56: an idle machine answers itself. Of the actions only BUILD and SEND have a path that stops, and a
described frame under fitting parameters keeps both inside the buffer (`exec_answers`). -/
theorem stepAlwaysAnswers : Obligations.StepAlwaysAnswers := by
  intro s hsize hwin hs
  cases hpending : s.pending with
  | nil => exact ⟨s, step_idle hpending⟩
  | cons inp rest =>
    rw [step_of_pending hpending]
    exact performInput_answers inp hsize hwin (frameDescribed_withPending rest hs)

/-- Settles O51: `applyReset` is the reset state with the parameters, the queue and the replies kept, and the count of
resets one higher. -/
theorem externalResetRestoresTheResetState : Obligations.ExternalResetRestoresTheResetState :=
  fun s _ hpending => ⟨s.epoch + 1, step_reset hpending⟩

end Sys2Proof.Proofs
end
